-- ==== Sys2Proof/Word.lean ====
section
/-! DEFINITION. The word and byte types of the part's interfaces. -/

namespace Sys2Proof

/-- One word of the register window (R156, R173): 16 bits. -/
abbrev Word := BitVec 16

/-- One byte on a link lane (R171): 8 bits. -/
abbrev Byte := BitVec 8

end Sys2Proof
end

