-- ==== Sys2Proof/Syntax.lean ====
section
/-! DEFINITION. The values commands carry, and the commands: one constructor of Instr per row of spec/opcode_table.json. -/

namespace Sys2Proof

/-- A rate step S1 to S12 (Table 1-1). The value `k` stands for S`k+1`. -/
abbrev Step := Fin 12

/-- The number of a step, 1 for S1 to 12 for S12 (Table 13-1). -/
def Step.number (k : Step) : Nat := k.val + 1

/-- A step set: S1 in bit 0, S12 in bit 11 (section 1.4.2, Table 13-1). -/
abbrev StepSet := BitVec 12

/-- A line, report link, line interface and arbiter number (section 1.4.4). -/
abbrev LineId := Fin 8

/-- A station number on its line, 0 to 4095 (section 1.4.4). -/
abbrev Station := BitVec 12

/-- A slot number (R1). -/
abbrev Handle := Fin 256

/-- A slot's epoch, 0 to 4095 (R2). -/
abbrev Epoch := BitVec 12

/-- A lookup query's tag (Table 13-4). -/
abbrev Tag := BitVec 4

/-- The reason an OUTCOME frame carries (Table 5-3). -/
inductive OutcomeReason where
  | refused
  | noResponse
deriving DecidableEq, Repr

/-- What a CARRIER frame reports (Table 5-3). -/
inductive CarrierReport where
  | up
  | down
deriving DecidableEq, Repr

/-- The seven mailbox words that the host writes (R158). -/
inductive MailboxWord where
  | code
  | arg (i : Fin 6)
deriving DecidableEq, Repr

/-- A receiver that waits for an idle of two byte times after a reset (R169). -/
inductive Receiver where
  | report (line : LineId)
  | lookup
deriving DecidableEq, Repr

/-- The commands and events of the part, one constructor per row of the table.

A host command carries the argument words it uses. It stands for the writes that put its code and
these words into the mailbox, and the write of CTRL with GO one (log 1).
A frame or query command stands for the arrival of the frame or query. -/
inductive Instr where
  /-- POWER_ON (R169). -/
  | powerOn
  /-- POWER_ON_END (R169). -/
  | powerOnEnd
  /-- RESETN: RESETn is driven low (R169). -/
  | resetn
  /-- RESETN_RELEASE (R169). -/
  | resetnRelease
  /-- ADMIT (R16, R17). -/
  | admitRecord (line station profile : Word)
  /-- FIND of the host (R24). -/
  | find (line station : Word)
  /-- READ (R25). -/
  | read (handle : Word)
  /-- REBIND (R42). -/
  | rebind (handle epoch profile : Word)
  /-- CAP (R106). -/
  | cap (handle epoch step : Word)
  /-- RENEGOTIATE (R105). -/
  | renegotiate (handle epoch : Word)
  /-- RETIRE (R125 to R127). -/
  | retire (handle epoch grace : Word)
  /-- NEXT_CHANGE (R145). -/
  | nextChange (start : Word)
  /-- ACK_CHANGE (R146). -/
  | ackChange (handle epoch kinds : Word)
  /-- PROFILE_STAGE (R32). -/
  | profileStage (field value : Word)
  /-- PROFILE_LOAD (R33). -/
  | profileLoad (profile : Word)
  /-- PROFILE_COMMIT (R35 to R37). -/
  | profileCommit (profile : Word)
  /-- PROFILE_READ (R34). -/
  | profileRead (profile field : Word)
  /-- LADDER_WRITE (R45). -/
  | ladderWrite (ladder step rise fall : Word)
  /-- LADDER_READ (R46). -/
  | ladderRead (ladder step : Word)
  /-- LINE_CONFIG (R75). -/
  | lineConfig (line quota mode profile keepalive : Word)
  /-- LINE_READ (R76). -/
  | lineRead (line : Word)
  /-- LINE_RESET (R77). -/
  | lineReset (line : Word)
  /-- LINE_ACK (R78). -/
  | lineAck (line kinds : Word)
  /-- CLEAR_TABLE (R26). -/
  | clearTable
  /-- IDENT (R166). -/
  | ident
  /-- UNKNOWN_COMMAND: a GO write with this value in MAILBOX (R163). -/
  | unknownCommand (code : Word)
  /-- GO_WHILE_BUSY: a write to CTRL with GO one (R160). -/
  | goWhileBusy
  /-- MAILBOX_WRITE (R158, R160). -/
  | mailboxWrite (word : MailboxWord) (value : Word)
  /-- FLAGS_WRITE (R151). -/
  | flagsWrite (value : Word)
  /-- ENABLES_WRITE (R152). -/
  | enablesWrite (value : Word)
  /-- PORT_STATUS_WRITE (R161). -/
  | portStatusWrite (value : Word)
  /-- REGISTER_WRITE: a write to a word of the window, ignored where R156 says so. -/
  | registerWrite (address : BitVec 5) (value : Word)
  /-- SWEEP_VISIT (R39). -/
  | sweepVisit
  /-- COMMIT_SWEEP_END (R37). -/
  | commitSweepEnd
  /-- LINE_UP with its ceiling (R66, R67). -/
  | lineUp (line : LineId) (ceiling : Step)
  /-- LINE_DOWN (R66). -/
  | lineDown (line : LineId)
  /-- ALIVE (R64). -/
  | alive (line : LineId)
  /-- CAPABILITY (R70). -/
  | capability (line : LineId) (station : Station) (mask : StepSet)
  /-- OUTCOME (R89). -/
  | outcome (line : LineId) (station : Station) (reason : OutcomeReason)
  /-- CONFIRM (R91). -/
  | confirm (line : LineId) (station : Station) (step : Step)
  /-- CARRIER (R109). -/
  | carrier (line : LineId) (station : Station) (report : CarrierReport)
  /-- QUALITY (R48). -/
  | quality (line : LineId) (station : Station) (value : BitVec 8)
  /-- MALFORMED_FRAME (R63). -/
  | malformedFrame (line : LineId)
  /-- FRAME_TRANSMISSION (R74). -/
  | frameTransmission (line : LineId)
  /-- SILENCE_EXPIRY (R65). -/
  | silenceExpiry (line : LineId)
  /-- NEGOTIATION_TIMER_EXPIRY (R93). -/
  | negotiationTimerExpiry (handle : Handle)
  /-- CONFIRM_TIMER_EXPIRY (R93). -/
  | confirmTimerExpiry (handle : Handle)
  /-- HOLDOVER_EXPIRY (R113). -/
  | holdoverExpiry (handle : Handle)
  /-- BACKOFF_EXPIRY (R100). -/
  | backoffExpiry (handle : Handle)
  /-- GRACE_EXPIRY (R129). -/
  | graceExpiry (handle : Handle)
  /-- LOOKUP_FIND (R141). -/
  | lookupFind (tag : Tag) (line : BitVec 4) (station : Station)
  /-- PEEK (R142). -/
  | peek (tag : Tag) (handle : BitVec 9) (epoch : Epoch)
  /-- HOLD (R123). -/
  | hold (tag : Tag) (handle : BitVec 9) (epoch : Epoch)
  /-- RELEASE (R124). -/
  | release (tag : Tag) (handle : BitVec 9) (epoch : Epoch)
  /-- BAD_QUERY: a query that fails test 1 or 2 of R140, with its tag as received. -/
  | badQuery (tag : Tag)
  /-- QUERY_DISCARD (R138). -/
  | queryDiscard
  /-- ANSWER_SENT (R137). -/
  | answerSent
  /-- FRAME_TRANSMISSION_COMPLETE (R74). -/
  | frameTransmissionComplete (line : LineId)
  /-- IDLE_OF_TWO_BYTE_TIMES (R169). -/
  | idleOfTwoByteTimes (receiver : Receiver)
deriving DecidableEq, Repr

end Sys2Proof
end

