-- ==== Sys2Proof/Config.lean ====
section
/-! DEFINITION. Constants fixed in the part. The spec leaves no value of a result open, so no free value stands here. -/

namespace Sys2Proof.Config

/-- ID_PART, the part number (R166, Table 13-6). -/
def idPart : Word := 0x2218

/-- ID_REV, the die revision (R166, Table 13-6). -/
def idRev : Word := 0x0001

/-- Frames a transmit queue holds at most (R74). -/
def txQueueDepth : Nat := 128

/-- The bad-frame run at which a line is lost (R63). -/
def badRunLimit : Nat := 8

/-- The most holds a record can have (R122). -/
def holdLimit : Nat := 15

/-- Bits of ENABLES that exist: the six flag enables and the master enable (Table 13-6). -/
def enablesMask : Word := 0x803F

/-- ENABLES at power-on and RESETn (R152, Table 13-6). -/
def enablesReset : Word := 0x801F

end Sys2Proof.Config
end

