-- ==== Sys2Proof/Machine/State.lean ====
section
/-! DEFINITION. Everything the spec gives the part to hold, as plain data, and its values after reset. -/

namespace Sys2Proof.Machine

/-- No command of the part stops it with a fault: the spec makes every error an effect on the state
(R63, R140, R162). So there is no constructor. -/
inductive Fault where
deriving DecidableEq, Repr

/-- Why a command has no outcome in the model. -/
inductive Refusal where
  /-- Raised by an arm of exec whose command has no meaning yet. Safe: nothing can be proved of a next state.
  Every command has its meaning, so no arm raises it. -/
  | notModelled (mnemonic : String)
deriving DecidableEq, Repr

/-- A running timer (R9, R10): the time base at its start and its programmed duration, both in ms. The deadline is their sum. -/
structure Timer where
  start : Nat
  duration : Nat
deriving DecidableEq, Repr

/-- The eight record states (Table 2-2). -/
inductive RecState where
  | parked
  | waiting
  | negotiating
  | agreed
  | holdover
  | backoff
  | failed
  | retiring
deriving DecidableEq, Repr

/-- The nine causes (R4). -/
inductive Cause where
  | initial
  | host
  | remote
  | qualityDown
  | qualityUp
  | lineCeiling
  | profile
  | holdoverExpiry
  | lineUp
deriving DecidableEq, Repr

/-- The phase of an attempt (R86), with the ordered step in ORDERED (R6). -/
inductive Phase where
  | offered
  | ordered (step : Step)
deriving DecidableEq, Repr

/-- The attempt fields of a NEGOTIATING record (R6). -/
structure Attempt where
  phase : Phase
  offer : StepSet
  rerun : Bool
deriving DecidableEq, Repr

/-- The carrier field of a record (R4). -/
inductive Carrier where
  | unknown
  | up
  | down
deriving DecidableEq, Repr

/-- The quality field and the quality ceiling, which are present together (R8). The ceiling `none` is "none". -/
structure Quality where
  value : BitVec 8
  ceiling : Option Step
deriving DecidableEq, Repr

/-- An agreement record (Table 2-1). -/
structure Record where
  line : LineId
  station : Station
  profile : Fin 16
  state : RecState
  cause : Option Cause
  attempt : Option Attempt
  remoteMask : Option StepSet
  agreed : Option Step
  generation : BitVec 16
  capOverride : Option Step
  quality : Option Quality
  riseCount : Nat
  fallCount : Nat
  forwardBlocked : Bool
  attempts : Nat
  carrier : Carrier
  holds : Nat
  /-- Change kinds in the encoding of Table 13-1: bit 0 STATE, 1 RATE, 2 CEILING, 3 REMOTE, 4 RETIRED. -/
  changes : BitVec 5
  timer : Option Timer
deriving DecidableEq, Repr

/-- What a slot holds beside its epoch (R1). -/
inductive SlotBody where
  | free
  | live (r : Record)
  | vacated (line : LineId) (station : Station) (changes : BitVec 5)
deriving DecidableEq, Repr

/-- A slot of the agreement table (R1, R2). -/
structure Slot where
  epoch : Epoch
  body : SlotBody
deriving DecidableEq, Repr

/-- A grace (R125, field 12 of Table 3-1): a number of 100 ms units, or UNBOUNDED. -/
inductive Grace where
  | bounded (units : Nat)
  | unbounded
deriving DecidableEq, Repr

/-- The fourteen fields of a profile (Table 3-1), times in the unit of the table. -/
structure Profile where
  offerMask : StepSet
  floor : Step
  cap : Step
  ladder : Fin 4
  forwardEn : Bool
  riseSamples : Nat
  fallSamples : Nat
  holdoverTime : Nat
  negTimeout : Nat
  confirmTimeout : Nat
  retryLimit : Nat
  backoffBase : Nat
  graceDefault : Grace
  notifyMask : BitVec 5
deriving DecidableEq, Repr

/-- The factory defaults of P0 (Table 3-1). -/
def Profile.factory : Profile :=
  { offerMask := 0xFFF, floor := 0, cap := 11, ladder := 0, forwardEn := true,
    riseSamples := 4, fallSamples := 2, holdoverTime := 200, negTimeout := 50,
    confirmTimeout := 10, retryLimit := 3, backoffBase := 25,
    graceDefault := .bounded 300, notifyMask := 0b10011 }

/-- A commit sweep in progress (R37). `cursor` is the handle of the next slot to examine, 256 when all have been. -/
structure Sweep where
  profile : Fin 16
  cursor : Nat
  visited : Nat
  requeued : Nat
  parked : Nat
  rerun : Nat
deriving DecidableEq, Repr

/-- One rung of a ladder (R44). -/
structure Rung where
  rise : BitVec 8
  fall : BitVec 8
deriving DecidableEq, Repr

/-- A ladder: one rung per step (R44). -/
abbrev Ladder := Vector Rung 12

/-- The content every ladder has after reset: R(k) = 20k, F(k) = 20k - 8 (R44, Table 4-1). -/
def Ladder.factory : Ladder :=
  Vector.ofFn fun k : Fin 12 =>
    { rise := BitVec.ofNat 8 (20 * Step.number k), fall := BitVec.ofNat 8 (20 * Step.number k - 8) }

/-- The state of a line (R60). -/
inductive LineState where
  | absent
  | down
  | up
  | lost
deriving DecidableEq, Repr

/-- Whether a line admits stations the host has not named (R60). -/
inductive AdmissionMode where
  | closed
  | opened
deriving DecidableEq, Repr

/-- A frame to a line engine (Table 5-4). -/
inductive DownFrame where
  | negotiate (station : Station) (offer : StepSet)
  | order (station : Station) (step : Step)
  | abandon (station : Station)
  | reset
deriving DecidableEq, Repr

/-- A line record with its transmit lane and its receiver (Table 5-1, R74, R169). -/
structure Line where
  state : LineState
  ceiling : Step
  mode : AdmissionMode
  defaultProfile : Fin 16
  quota : Nat
  /-- Keepalive interval in 10 ms units. -/
  keepalive : Nat
  silence : Option Timer
  badRun : Nat
  /-- Line change kinds in the encoding of Table 13-1: bit 0 STATE, 1 CEILING, 2 UNKNOWN, 3 STRAY, 4 FAULT. -/
  changes : BitVec 5
  txQueue : List DownFrame
  sending : Option DownFrame
  /-- Bit times of the frame in transmission that have been sent (R171). -/
  txSent : Nat
  /-- The data bits received of the byte under way on the receive lane, bit 0 first; `none` between bytes (R171). -/
  rxBits : Option (List Bool)
  /-- Bit times for which the receive lane has been idle, up to the 20 of two byte times (R62, R171). -/
  rxHigh : Nat
  /-- The bytes of the frame under way on the receive lane (R62), fewer than five. -/
  rxBytes : List Byte
  /-- The receiver has not yet found the idle of two byte times that R169 asks for after a reset. -/
  rxWaitsIdle : Bool
deriving DecidableEq, Repr

/-- A line record after power-on or RESETn (Table 5-1, R80). -/
def Line.reset : Line :=
  { state := .absent, ceiling := 11, mode := .closed, defaultProfile := 0, quota := 32,
    keepalive := 20, silence := none, badRun := 0, changes := 0, txQueue := [],
    sending := none, txSent := 0, rxBits := none, rxHigh := 0, rxBytes := [], rxWaitsIdle := true }

/-- A negotiation arbiter (R81): the grant, and the two classes of the wait queue, head first. -/
structure Arbiter where
  grant : Option Handle
  urgent : List Handle
  normal : List Handle
deriving DecidableEq, Repr

/-- An arbiter after power-on or RESETn (R81, R108). -/
def Arbiter.reset : Arbiter := { grant := none, urgent := [], normal := [] }

/-- The status of a lookup answer (Table 13-5). -/
inductive AnswerStatus where
  | ok
  | notFound
  | stale
  | holdFull
  | retiring
  | notHeld
  | badQuery
deriving DecidableEq, Repr

/-- The record content of a lookup answer (Table 9-1). -/
structure AnswerContent where
  handle : Handle
  epoch : Epoch
  state : RecState
  agreed : Option Step
  generation : BitVec 16
  holds : Nat
deriving DecidableEq, Repr

/-- A composed lookup answer (R136, R144). Without content its fields are sent as zero. -/
structure Answer where
  status : AnswerStatus
  tag : Tag
  overrun : Bool
  content : Option AnswerContent
deriving DecidableEq, Repr

/-- The lookup port (R135). It is BUSY exactly while an answer is in hand. -/
structure LookupPort where
  answer : Option Answer
  pendingOverrun : Bool
  /-- Bit times of the answer in hand that have been sent (R172). -/
  txSent : Nat
  /-- The data bits received of the byte under way on the receive lane, bit 0 first; `none` between bytes (R171, R172). -/
  rxBits : Option (List Bool)
  /-- The bytes of the query under way on the receive lane (R136), fewer than five. -/
  rxBytes : List Byte
  /-- The receiver has not yet found the idle of two byte times that R169 asks for after a reset. -/
  rxWaitsIdle : Bool
deriving DecidableEq, Repr

/-- The lookup port after power-on or RESETn (R135, R169). -/
def LookupPort.reset : LookupPort :=
  { answer := none, pendingOverrun := false, txSent := 0, rxBits := none, rxBytes := [], rxWaitsIdle := true }

/-- The SPI port between two SCK cycles (R157, R169, R173). -/
inductive Spi where
  /-- CSn is high. -/
  | idle
  /-- CSn is low in a transaction that is not taken: a reset ended it, or it began while the part was held (R157, R169). -/
  | skipped
  /-- The header word is under way; its bits received so far, fewer than 16. -/
  | header (bits : List Bool)
  /-- A write at its current address; the bits of the word under way, fewer than 16. -/
  | writing (address : BitVec 5) (bits : List Bool)
  /-- A read at its current address; the word as taken at its first bit, and how many of its bits are sent, fewer than 16. -/
  | reading (address : BitVec 5) (word : Word) (sent : Nat)
deriving DecidableEq, Repr

/-- What a power-on or RESETn makes of the SPI port: a transaction in progress ends, and the rest of it is not taken (R157, R168). -/
def Spi.cut : Spi → Spi
  | .idle => .idle
  | .skipped => .skipped
  | .header _ => .skipped
  | .writing _ _ => .skipped
  | .reading _ _ _ => .skipped

/-- The mailbox and the port status (R156 to R161). `status` is bits 3 to 0 of CTRL. -/
structure HostPort where
  mailbox : Word
  args : Vector Word 6
  res : Vector Word 8
  go : Bool
  status : BitVec 4
  mailboxBusy : Bool
deriving DecidableEq, Repr

/-- The host command port after power-on or RESETn (R168). -/
def HostPort.reset : HostPort :=
  { mailbox := 0, args := Vector.replicate 6 0, res := Vector.replicate 8 0,
    go := false, status := 0, mailboxBusy := false }

/-- The four sticky device flags (R148). The two level flags follow the change sets (R149) and are not held. -/
structure StickyFlags where
  tableFull : Bool
  noticeLost : Bool
  lookupOverrun : Bool
  commandDone : Bool
deriving DecidableEq, Repr

/-- The sticky flags after power-on or RESETn (R155). -/
def StickyFlags.reset : StickyFlags :=
  { tableFull := false, noticeLost := false, lookupOverrun := false, commandDone := false }

/-- The whole part. -/
structure State where
  /-- The part is in power-on (R169). -/
  poweringOn : Bool
  /-- RESETn is held low (R169). -/
  resetLow : Bool
  /-- The time base in ms, as the model counts it (log 3). -/
  now : Nat
  slots : Vector Slot 256
  lines : Vector Line 8
  arbiters : Vector Arbiter 8
  /-- P0 to P15; `none` is INVALID (R28). -/
  profiles : Vector (Option Profile) 16
  staging : Profile
  sweep : Option Sweep
  ladders : Vector Ladder 4
  port : HostPort
  /-- The SPI transaction in progress (R157, R173). -/
  spi : Spi
  lookup : LookupPort
  flags : StickyFlags
  /-- ENABLES (R152). -/
  enables : Word
  /-- Commands waiting to be taken, first in, first out. -/
  pending : List Instr
deriving DecidableEq, Repr

/-- The part right after power-on or RESETn has ended: every block at its reset values, every
receiver waiting for its first idle (R27, R43, R59, R80, R108, R121, R134, R135, R155, R168, R169). -/
def State.reset : State :=
  { poweringOn := false
    resetLow := false
    now := 0
    slots := Vector.replicate 256 { epoch := 0, body := .free }
    lines := Vector.replicate 8 Line.reset
    arbiters := Vector.replicate 8 Arbiter.reset
    profiles := (Vector.replicate 16 none).set 0 (some Profile.factory)
    staging := Profile.factory
    sweep := none
    ladders := Vector.replicate 4 Ladder.factory
    port := HostPort.reset
    spi := .idle
    lookup := LookupPort.reset
    flags := StickyFlags.reset
    enables := Config.enablesReset
    pending := [] }

end Sys2Proof.Machine
end

