-- ==== Sys2Proof/Machine/Operands.lean ====
section
/-! DEFINITION. Steps and step sets, the encodings of Table 13-1, argument words, profile fields and ladders. -/

namespace Sys2Proof.Machine

/-- A step in a frame, query or word: 1 to 12, and 0 for none or absent (Table 13-1). "None" is lower than S1
(section 1.4.2), so steps and absence are compared by this number. -/
def stepCode (k : Option Step) : Nat := match k with
  | none => 0
  | some k => Step.number k

/-- Membership of a step in a step set (Table 13-1). -/
def StepSet.has (set : StepSet) (k : Step) : Bool := set.getLsbD k.val

/-- The step set of the steps that meet a condition. -/
def stepsWhere (f : Step → Bool) : StepSet := BitVec.ofFnLE f

/-- The highest step that meets a condition, if one does. -/
def highestStep (f : Step → Bool) : Option Step := (List.finRange 12).reverse.find? f

/-- The highest step of a step set, if it is not empty. -/
def StepSet.highest (set : StepSet) : Option Step := highestStep (StepSet.has set)

/-- An agreed step lies above a measured quality ceiling, where "none" is below S1; no step is above an unmeasured ceiling (R53). -/
def aboveQuality (q : Option Quality) (k : Step) : Bool := match q with
  | none => false
  | some q => decide (stepCode q.ceiling < Step.number k)

/-- A step lies above a cap override, if one is present (R96, R106). -/
def aboveOverride (o : Option Step) (k : Step) : Bool := match o with
  | none => false
  | some c => decide (c < k)

/-- The offer computed at the grant (R85): the steps of OFFER_MASK from FLOOR to the lowest upper term. -/
def computeOffer (p : Profile) (override : Option Step) (lineCeiling : Step) (q : Option Quality) : StepSet :=
  stepsWhere fun k =>
    StepSet.has p.offerMask k && decide (p.floor ≤ k) && decide (k ≤ p.cap) &&
      !aboveOverride override k && decide (k ≤ lineCeiling) && !aboveQuality q k

/-- An agreed step is non-compliant with a profile (R38). -/
def nonCompliant (p : Profile) (k : Step) : Bool :=
  !StepSet.has p.offerMask k || decide (k < p.floor) || decide (p.cap < k)

/-- The ceiling a first sample or a completed rise gives: the highest k with R(k) at most the value (R49, R50). -/
def Ladder.riseCeiling (l : Ladder) (value : BitVec 8) : Option Step :=
  highestStep fun k => decide (l[k].rise.toNat ≤ value.toNat)

/-- The ceiling a completed fall gives: the highest k with F(k) at most the value (R51). -/
def Ladder.fallCeiling (l : Ladder) (value : BitVec 8) : Option Step :=
  highestStep fun k => decide (l[k].fall.toNat ≤ value.toNat)

/-- The rung above a ceiling, if the ceiling is below S12; the rung above none is S1 (R50). -/
def stepAbove (c : Option Step) : Option Step := match c with
  | none => some 0
  | some k => if h : k.val + 1 < 12 then some ⟨k.val + 1, h⟩ else none

/-- The rise condition of R50 for a value against the ceiling held before. -/
def Ladder.rises (l : Ladder) (c : Option Step) (value : BitVec 8) : Bool := match stepAbove c with
  | none => false
  | some k => decide (l[k].rise.toNat ≤ value.toNat)

/-- The fall condition of R51 for a value against the ceiling held before. -/
def Ladder.falls (l : Ladder) (c : Option Step) (value : BitVec 8) : Bool := match c with
  | none => false
  | some k => decide (value.toNat < l[k].fall.toNat)

/-! ### Codes of Table 13-1 -/

/-- Record state code (Table 13-1). -/
def RecState.code : RecState → BitVec 3
  | .parked => 0
  | .waiting => 1
  | .negotiating => 2
  | .agreed => 3
  | .holdover => 4
  | .backoff => 5
  | .failed => 6
  | .retiring => 7

/-- Cause code, 0 when absent (Table 13-1). -/
def causeCode : Option Cause → BitVec 4
  | none => 0
  | some .initial => 1
  | some .host => 2
  | some .remote => 3
  | some .qualityDown => 4
  | some .qualityUp => 5
  | some .lineCeiling => 6
  | some .profile => 7
  | some .holdoverExpiry => 8
  | some .lineUp => 9

/-- Quality ceiling code: 0 none, 1 to 12, 15 unmeasured (Table 13-1). -/
def qualityCeilingCode : Option Quality → BitVec 4
  | none => 15
  | some q => BitVec.ofNat 4 (stepCode q.ceiling)

/-- Carrier code (Table 13-1). -/
def Carrier.code : Carrier → BitVec 2
  | .unknown => 0
  | .up => 1
  | .down => 2

/-- Line state code (Table 13-1). -/
def LineState.code : LineState → BitVec 2
  | .absent => 0
  | .down => 1
  | .up => 2
  | .lost => 3

/-- Slot condition code (Table 13-1). -/
def SlotBody.code : SlotBody → BitVec 2
  | .free => 0
  | .live _ => 1
  | .vacated _ _ _ => 2

/-- The result statuses of host commands (Table 11-3). -/
inductive Status where
  | ok
  | unknownCommand
  | badArg
  | stale
  | notFound
  | keyExists
  | quota
  | full
  | busy
  | lineDown
  | inUse
deriving DecidableEq, Repr

/-- Status code (Table 13-8). -/
def Status.code : Status → BitVec 4
  | .ok => 0
  | .unknownCommand => 1
  | .badArg => 2
  | .stale => 3
  | .notFound => 4
  | .keyExists => 5
  | .quota => 6
  | .full => 7
  | .busy => 8
  | .lineDown => 9
  | .inUse => 10

/-! ### Argument words -/

/-- A number below `n` held by an argument word, judged over its whole 16 bits (R163). -/
def Word.below (n : Nat) (w : Word) : Option (Fin n) :=
  if h : w.toNat < n then some ⟨w.toNat, h⟩ else none

/-- A step argument 1 to 12 (R45, R46). -/
def Word.step? (w : Word) : Option Step :=
  if h : 1 ≤ w.toNat ∧ w.toNat ≤ 12 then some ⟨w.toNat - 1, by omega⟩ else none

/-- A station or epoch argument 0 to 4095. -/
def Word.twelve? (w : Word) : Option (BitVec 12) :=
  if w.toNat ≤ 4095 then some (w.setWidth 12) else none

/-- A kind set argument with no bit outside the five kinds (R78, R146). -/
def Word.kinds? (w : Word) : Option (BitVec 5) :=
  if w.toNat < 32 then some (w.setWidth 5) else none

/-- A number as a result word. -/
def wordOf (n : Nat) : Word := BitVec.ofNat 16 n

/-! ### Profile fields (Table 3-1) -/

/-- UNBOUNDED as an encoded grace (Table 3-1, R125). -/
def graceUnbounded : Word := 0xFFFF

/-- The GRACE argument that asks for the profile default (R125). -/
def graceFromProfile : Word := 0xFFFE

/-- The encoded value of a grace (Table 3-1). -/
def Grace.code : Grace → Word
  | .bounded n => wordOf n
  | .unbounded => graceUnbounded

/-- A grace read from its encoded value: 0 to 6000, or FFFFh (Table 3-1). -/
def Grace.ofWord? (w : Word) : Option Grace :=
  if w.toNat ≤ 6000 then some (.bounded w.toNat)
  else if w = graceUnbounded then some .unbounded
  else none

/-- The encoded value of a field by its number (Table 3-1, R34). -/
def Profile.field (p : Profile) (n : Fin 14) : Word := match n with
  | 0 => p.offerMask.setWidth 16
  | 1 => wordOf (Step.number p.floor)
  | 2 => wordOf (Step.number p.cap)
  | 3 => wordOf p.ladder.val
  | 4 => if p.forwardEn then 1 else 0
  | 5 => wordOf p.riseSamples
  | 6 => wordOf p.fallSamples
  | 7 => wordOf p.holdoverTime
  | 8 => wordOf p.negTimeout
  | 9 => wordOf p.confirmTimeout
  | 10 => wordOf p.retryLimit
  | 11 => wordOf p.backoffBase
  | 12 => p.graceDefault.code
  | 13 => p.notifyMask.setWidth 16

/-- A number in a range, read from an encoded value. -/
def Word.inRange? (lo hi : Nat) (w : Word) : Option Nat :=
  if lo ≤ w.toNat ∧ w.toNat ≤ hi then some w.toNat else none

/-- The profile with one field written from its encoded value, or none when the value is outside
the range of Table 3-1 (R32). -/
def Profile.withField? (p : Profile) (n : Fin 14) (w : Word) : Option Profile := match n with
  | 0 => if w.toNat < 4096 then some { p with offerMask := w.setWidth 12 } else none
  | 1 => (Word.step? w).map fun k => { p with floor := k }
  | 2 => (Word.step? w).map fun k => { p with cap := k }
  | 3 => (Word.below 4 w).map fun k => { p with ladder := k }
  | 4 => (Word.below 2 w).map fun k => { p with forwardEn := decide (k.val = 1) }
  | 5 => (Word.inRange? 1 15 w).map fun k => { p with riseSamples := k }
  | 6 => (Word.inRange? 1 15 w).map fun k => { p with fallSamples := k }
  | 7 => (Word.inRange? 0 6000 w).map fun k => { p with holdoverTime := k }
  | 8 => (Word.inRange? 5 500 w).map fun k => { p with negTimeout := k }
  | 9 => (Word.inRange? 1 100 w).map fun k => { p with confirmTimeout := k }
  | 10 => (Word.inRange? 0 7 w).map fun k => { p with retryLimit := k }
  | 11 => (Word.inRange? 10 1000 w).map fun k => { p with backoffBase := k }
  | 12 => (Grace.ofWord? w).map fun g => { p with graceDefault := g }
  | 13 => (Word.kinds? w).map fun k => { p with notifyMask := k }

/-- The first commit check that the content fails (R35), by its number. Check 4 cannot fail, since a held LADDER is
0 to 3; it stands so that validation stands on its own, as R35 says. -/
def Profile.failedCheck (p : Profile) : Option Nat := match StepSet.highest p.offerMask with
  | none => some 1
  | some top =>
    if top < p.floor then some 2
    else if p.cap < p.floor then some 3
    else if 3 < p.ladder.val then some 4
    else none

/-- The duration in ms of a back-off after the `n`th failure (Table 6-6). -/
def backoffMs (p : Profile) (n : Nat) : Nat := 10 * p.backoffBase * 2 ^ (min n 5 - 1)

/-- The first test of Table 4-2 that a new rung fails, by its number (R45). -/
def Ladder.failedTest (l : Ladder) (k : Step) (g : Rung) : Option Nat :=
  let atLeastBelow (f : Rung → BitVec 8) (v : BitVec 8) : Bool :=
    if h : 0 < k.val then decide ((f (l[k.val - 1]'(by omega))).toNat ≤ v.toNat) else true
  let atMostAbove (f : Rung → BitVec 8) (v : BitVec 8) : Bool :=
    if h : k.val + 1 < 12 then decide (v.toNat ≤ (f l[k.val + 1]).toNat) else true
  if g.rise.toNat < g.fall.toNat then some 1
  else if !atLeastBelow Rung.rise g.rise then some 2
  else if !atMostAbove Rung.rise g.rise then some 3
  else if !atLeastBelow Rung.fall g.fall then some 4
  else if !atMostAbove Rung.fall g.fall then some 5
  else none

end Sys2Proof.Machine
end

