-- ==== Sys2Proof/Machine/Flags.lean ====
section
/-! DEFINITION. Change kinds and change sets (R21, R61), the device flags, INTn and the cause word (R148 to R154). -/

namespace Sys2Proof.Machine

/-- Record change kind STATE (Table 2-3, Table 13-1). -/
def kindState : BitVec 5 := 0b00001
/-- Record change kind RATE. -/
def kindRate : BitVec 5 := 0b00010
/-- Record change kind CEILING. -/
def kindCeiling : BitVec 5 := 0b00100
/-- Record change kind REMOTE. -/
def kindRemote : BitVec 5 := 0b01000
/-- Record change kind RETIRED. -/
def kindRetired : BitVec 5 := 0b10000

/-- Line change kind STATE (Table 5-2, Table 13-1). -/
def lineKindState : BitVec 5 := 0b00001
/-- Line change kind CEILING. -/
def lineKindCeiling : BitVec 5 := 0b00010
/-- Line change kind UNKNOWN. -/
def lineKindUnknown : BitVec 5 := 0b00100
/-- Line change kind STRAY. -/
def lineKindStray : BitVec 5 := 0b01000
/-- Line change kind FAULT. -/
def lineKindFault : BitVec 5 := 0b10000

/-- Record a kind, if it is in the notify mask of the record's profile (R21). -/
def Record.note (p : Profile) (kind : BitVec 5) (r : Record) : Record :=
  { r with changes := r.changes ||| (kind &&& p.notifyMask) }

/-- Record a line change kind, unfiltered (R61). -/
def Line.note (kind : BitVec 5) (l : Line) : Line :=
  { l with changes := l.changes ||| kind }

/-- The change set a slot holds (R1, R21): empty for a free slot. -/
def SlotBody.changes : SlotBody → BitVec 5
  | .free => 0
  | .live r => r.changes
  | .vacated _ _ c => c

/-- CHANGE_PENDING: some live or vacated slot has a nonempty change set (R149). -/
def State.changePending (s : State) : Bool :=
  (List.finRange 256).any fun h => decide (s.slots[h].body.changes ≠ 0)

/-- One indication per line with a nonempty change set (R154). -/
def State.lineMask (s : State) : BitVec 8 :=
  BitVec.ofFnLE fun l : LineId => decide (s.lines[l].changes ≠ 0)

/-- LINE_EVENT: some line change set is nonempty (R149). -/
def State.lineEvent (s : State) : Bool :=
  (List.finRange 8).any fun l => decide (s.lines[l].changes ≠ 0)

/-- The six device flags in their bits of FLAGS, which is also their priority order (Table 10-3, Table 13-6). -/
def State.deviceFlags (s : State) : BitVec 6 :=
  BitVec.ofBool s.flags.commandDone ++ BitVec.ofBool s.flags.lookupOverrun ++
    BitVec.ofBool s.changePending ++ BitVec.ofBool s.flags.noticeLost ++
    BitVec.ofBool s.flags.tableFull ++ BitVec.ofBool s.lineEvent

/-- The FLAGS word (R148). -/
def State.flagsWord (s : State) : Word := s.deviceFlags.setWidth 16

/-- The flags that are both set and enabled. -/
def State.enabledFlags (s : State) : BitVec 6 := s.deviceFlags &&& s.enables.setWidth 6

/-- INTn is asserted, that is driven low (R153). -/
def State.intnAsserted (s : State) : Bool :=
  s.enables.getLsbD 15 && decide (s.enabledFlags ≠ 0)

/-- The cause code: the set and enabled flag of highest priority, 0 for NONE (R154). -/
def State.causeCode (s : State) : BitVec 3 :=
  let f := s.enabledFlags
  if f.getLsbD 0 then 1
  else if f.getLsbD 1 then 2
  else if f.getLsbD 2 then 3
  else if f.getLsbD 3 then 4
  else if f.getLsbD 4 then 5
  else if f.getLsbD 5 then 6
  else 0

/-- The CAUSE word (R154, Table 13-6). -/
def State.causeWord (s : State) : Word := s.lineMask ++ (0 : BitVec 5) ++ s.causeCode

/-- Set TABLE_FULL (R150). -/
def State.setTableFull (s : State) : State := { s with flags := { s.flags with tableFull := true } }

/-- Set NOTICE_LOST (R150). -/
def State.setNoticeLost (s : State) : State := { s with flags := { s.flags with noticeLost := true } }

/-- Set LOOKUP_OVERRUN (R150). -/
def State.setLookupOverrun (s : State) : State := { s with flags := { s.flags with lookupOverrun := true } }

/-- Clear the sticky flags written with one (R151): bits 1, 2, 4 and 5 of FLAGS. -/
def StickyFlags.clear (f : StickyFlags) (w : Word) : StickyFlags :=
  { tableFull := f.tableFull && !w.getLsbD 1
    noticeLost := f.noticeLost && !w.getLsbD 2
    lookupOverrun := f.lookupOverrun && !w.getLsbD 4
    commandDone := f.commandDone && !w.getLsbD 5 }

end Sys2Proof.Machine
end

