-- ==== Sys2Proof/Machine/Ops.lean ====
section
/-! DEFINITION. Access to the table, the lines and the arbiters; timers; the changes of one record; sending frames down. -/

namespace Sys2Proof.Machine

/-! ### Access -/

/-- The part takes events: power-on has ended and RESETn is not held low (R169). -/
def State.running (s : State) : Bool := !s.poweringOn && !s.resetLow

/-- The record of a live slot (R1). -/
def State.record? (s : State) (h : Handle) : Option Record := match s.slots[h].body with
  | .live r => some r
  | _ => none

/-- The record a handle and epoch name, if they name one (R3). An epoch of 0 never matches. -/
def State.named? (s : State) (h : Handle) (e : Epoch) : Option Record :=
  if e ≠ 0 ∧ s.slots[h].epoch = e then s.record? h else none

/-- The content of a profile (R28). Every live record and every line names a VALID profile; for an INVALID
one, which no run reads, the factory content stands (log 10). -/
def State.profileOf (s : State) (p : Fin 16) : Profile := s.profiles[p].getD Profile.factory

/-- A profile is VALID (R28). -/
def State.isValid (s : State) (p : Fin 16) : Bool := s.profiles[p].isSome

/-- The set of VALID profiles, P0 in bit 0 (R34). -/
def State.validSet (s : State) : Word := BitVec.ofFnLE fun p : Fin 16 => s.isValid p

/-- Change what a slot holds; its epoch stays (R2). -/
def State.setBody (s : State) (h : Handle) (b : SlotBody) : State :=
  { s with slots := s.slots.set h { s.slots[h] with body := b } }

/-- Store a record in its slot. -/
def State.putRecord (s : State) (h : Handle) (r : Record) : State := s.setBody h (.live r)

/-- Change one line. -/
def State.modLine (s : State) (l : LineId) (f : Line → Line) : State :=
  { s with lines := s.lines.set l (f s.lines[l]) }

/-- Change one arbiter. -/
def State.modArbiter (s : State) (l : LineId) (f : Arbiter → Arbiter) : State :=
  { s with arbiters := s.arbiters.set l (f s.arbiters[l]) }

/-- A line is UP (R66). -/
def State.lineIsUp (s : State) (l : LineId) : Bool := decide (s.lines[l].state = .up)

/-- Do something for every handle in ascending order. -/
def State.forHandles (s : State) (f : Handle → State → State) : State :=
  (List.finRange 256).foldl (fun s h => f h s) s

/-- A slot holds a live record of a line. -/
def SlotBody.isLiveOf (l : LineId) : SlotBody → Bool
  | .live r => decide (r.line = l)
  | _ => false

/-- A slot holds a live record with a key (R12). -/
def SlotBody.hasKey (l : LineId) (st : Station) : SlotBody → Bool
  | .live r => decide (r.line = l ∧ r.station = st)
  | _ => false

/-- A slot is free (R1). -/
def SlotBody.isFree : SlotBody → Bool
  | .free => true
  | _ => false

/-- A slot is live (R1). -/
def SlotBody.isLive : SlotBody → Bool
  | .live _ => true
  | _ => false

/-- A slot is vacated (R1). -/
def SlotBody.isVacated : SlotBody → Bool
  | .vacated _ _ _ => true
  | _ => false

/-- The key index: the live slot of a key, if there is one (R12, R69). -/
def State.findKey (s : State) (l : LineId) (st : Station) : Option Handle :=
  (List.finRange 256).find? fun h => s.slots[h].body.hasKey l st

/-- The live record count of a line (R13). -/
def State.liveCount (s : State) (l : LineId) : Nat :=
  (List.finRange 256).countP fun h => s.slots[h].body.isLiveOf l

/-! ### Timers (R9, R10) -/

/-- The deadline a timer was started with. -/
def Timer.deadline (t : Timer) : Nat := t.start + t.duration

/-- The accuracy of R10 in whole ms: 1 ms and 0.1 % of the duration. A timer of zero duration has none (R9). -/
def Timer.tolerance (t : Timer) : Nat := if t.duration = 0 then 0 else 1 + t.duration / 1000

/-- The first ms at which the timer can expire: within the accuracy, and not before its start (R10). -/
def Timer.earliest (t : Timer) : Nat := max t.start (t.deadline - t.tolerance)

/-- The last ms at which the timer can expire (R10). -/
def Timer.latest (t : Timer) : Nat := t.deadline + t.tolerance

/-- A timer started now with a duration in ms. -/
def State.startTimer (s : State) (ms : Nat) : Option Timer := some { start := s.now, duration := ms }

/-- The timer can expire now: the first ms at which R10 lets it expire has come (log 3). That its last such ms has not passed
is an invariant (Safety.lean): time goes on only past no running timer's last ms. -/
def State.mayExpire (s : State) (t : Timer) : Bool := decide (t.earliest ≤ s.now)

/-! ### Changes of one record -/

/-- Enter a state: STATE is recorded (R5, R21). -/
def Record.enter (p : Profile) (st : RecState) (r : Record) : Record :=
  Record.note p kindState { r with state := st }

/-- The agreed step becomes absent; if it was present the generation steps and RATE is recorded (R20). -/
def Record.dropAgreed (p : Profile) (r : Record) : Record := match r.agreed with
  | none => r
  | some _ => Record.note p kindRate { r with agreed := none, generation := r.generation + 1 }

/-- The agreed step takes a value; if that changes it the generation steps and RATE is recorded (R20). -/
def Record.takeAgreed (p : Profile) (k : Step) (r : Record) : Record :=
  if r.agreed = some k then r
  else Record.note p kindRate { r with agreed := some k, generation := r.generation + 1 }

/-- The remote mask takes a frame's mask, with REMOTE if it was absent or differed (R8), and an agreed step that the
new mask excludes becomes absent (R88 items 1 and 2, R102). -/
def Record.takeMask (p : Profile) (mask : StepSet) (r : Record) : Record :=
  let r1 := if r.remoteMask = some mask then r
    else Record.note p kindRemote { r with remoteMask := some mask }
  match r1.agreed with
  | none => r1
  | some k => if StepSet.has mask k then r1 else Record.dropAgreed p r1

/-! ### Sending frames down (R74) -/

/-- Hand a frame to a line: it joins the tail of the transmit queue, or FAULT is recorded when the queue is full (R74). -/
def State.sendDown (s : State) (l : LineId) (f : DownFrame) : State :=
  s.modLine l fun ln =>
    if ln.txQueue.length < Config.txQueueDepth then { ln with txQueue := ln.txQueue ++ [f] }
    else Line.note lineKindFault ln

/-- Hand ABANDON for a record's station to the record's line. -/
def State.sendAbandon (s : State) (r : Record) : State := s.sendDown r.line (.abandon r.station)

end Sys2Proof.Machine
end

