-- ==== Sys2Proof/Machine/Arbiter.lean ====
section
/-! DEFINITION. The wait queue and the grant, the attempt from its start to success or failure (R81 to R100), and requeueing. -/

namespace Sys2Proof.Machine

/-- The class a cause gives (Table 6-1). -/
def Cause.isUrgent : Cause → Bool
  | .qualityDown => true
  | .lineCeiling => true
  | _ => false

/-- Join the tail of the class a cause gives (R82). -/
def Arbiter.join (h : Handle) (c : Cause) (a : Arbiter) : Arbiter :=
  if c.isUrgent then { a with urgent := a.urgent ++ [h] } else { a with normal := a.normal ++ [h] }

/-- Leave the wait queue; the others keep their order (R84). -/
def Arbiter.leave (h : Handle) (a : Arbiter) : Arbiter :=
  { a with urgent := a.urgent.filter (· ≠ h), normal := a.normal.filter (· ≠ h) }

/-- Move to the tail of the urgent class (R84). -/
def Arbiter.moveUrgent (h : Handle) (a : Arbiter) : Arbiter :=
  { a with urgent := a.urgent ++ [h], normal := a.normal.filter (· ≠ h) }

/-- The record next in turn: the head of the urgent class, then of the normal class (R83). -/
def Arbiter.next? (a : Arbiter) : Option Handle := match a.urgent with
  | h :: _ => some h
  | [] => a.normal.head?

/-- Take the record next in turn out of the queue and give it the grant (R83). -/
def Arbiter.giveGrant (a : Arbiter) : Arbiter := match a.urgent with
  | h :: rest => { a with grant := some h, urgent := rest }
  | [] => { a with grant := a.normal.head?, normal := a.normal.tail }

/-- Release the grant of a line. -/
def State.releaseGrant (s : State) (l : LineId) : State := s.modArbiter l fun a => { a with grant := none }

/-- Move a record toward WAITING with a cause (R82, R40, R54): on an UP line it enters WAITING and joins the queue, keeping
its agreed step; on another line it enters PARKED and the agreed step becomes absent. A running timer is stopped. -/
def State.requeue (s : State) (h : Handle) (c : Cause) : State := match s.record? h with
  | none => s
  | some r =>
    let p := s.profileOf r.profile
    let r1 := { r with cause := some c, timer := none }
    if s.lineIsUp r.line then
      (s.putRecord h (Record.enter p .waiting r1)).modArbiter r.line (Arbiter.join h c)
    else s.putRecord h (Record.enter p .parked (Record.dropAgreed p r1))

/-- Move a WAITING record of the normal class to the tail of the urgent class with a new cause (R84). -/
def State.classMove (s : State) (h : Handle) (c : Cause) : State := match s.record? h with
  | none => s
  | some r => (s.putRecord h { r with cause := some c }).modArbiter r.line (Arbiter.moveUrgent h)

/-- The post-agreement check (R96) of an AGREED record. -/
def State.postCheck (s : State) (h : Handle) : State := match s.record? h with
  | none => s
  | some r => match r.agreed with
    | none => s
    | some k =>
      if s.lines[r.line].ceiling < k then s.requeue h .lineCeiling
      else if aboveQuality r.quality k || aboveOverride r.capOverride k then s.requeue h .qualityDown
      else if nonCompliant (s.profileOf r.profile) k then s.requeue h .profile
      else s

/-- An AGREED record whose carrier is DOWN passes on into HOLDOVER (R111). -/
def State.passToHoldover (s : State) (h : Handle) : State := match s.record? h with
  | none => s
  | some r =>
    if r.state = .agreed ∧ r.carrier = .down then
      let p := s.profileOf r.profile
      s.putRecord h (Record.enter p .holdover { r with timer := s.startTimer (10 * p.holdoverTime) })
    else s

/-- The reasons an attempt fails (R97). -/
inductive FailReason where
  | noCommon
  | refused
  | noResponse
  | noCarrier
  | protocol
  | timeout
deriving DecidableEq, Repr

/-- A failed QUALITY_UP attempt of a record that still has its agreed step (R99). -/
def State.returnQualityUp (s : State) (h : Handle) (r : Record) (reason : FailReason) : State :=
  let p := s.profileOf r.profile
  let r1 := { r with cause := none, forwardBlocked := true }
  if reason = .noCarrier then
    s.putRecord h (Record.enter p .holdover { r1 with timer := s.startTimer (10 * p.holdoverTime) })
  else ((s.putRecord h (Record.enter p .agreed r1)).postCheck h).passToHoldover h

/-- Any other failed attempt: the step is lost, the attempt is counted, BACKOFF or FAILED follows (R98). -/
def State.placeBackoff (s : State) (h : Handle) (r : Record) : State :=
  let p := s.profileOf r.profile
  let r1 := Record.dropAgreed p r
  let n := r1.attempts + 1
  if n ≤ p.retryLimit then
    s.putRecord h (Record.enter p .backoff
      { r1 with attempts := n, timer := s.startTimer (backoffMs p n) })
  else s.putRecord h (Record.enter p .failed { r1 with attempts := n })

/-- Items 1 to 3 of every failure (R97). The hand-out of item 4 is made by the event that failed the attempt. -/
def State.failAttempt (s : State) (h : Handle) (reason : FailReason) : State := match s.record? h with
  | none => s
  | some r =>
    let s1 := s.releaseGrant r.line
    let r1 := { r with attempt := none, timer := none }
    if r1.cause = some .qualityUp ∧ r1.agreed.isSome then s1.returnQualityUp h r1 reason
    else s1.placeBackoff h r1

/-- A record that has just been given the grant enters NEGOTIATING and starts its attempt (R87). -/
def State.startAttempt (s : State) (l : LineId) (h : Handle) : State := match s.record? h with
  | none => s.releaseGrant l
  | some r =>
    let p := s.profileOf r.profile
    let offer := computeOffer p r.capOverride s.lines[r.line].ceiling r.quality
    let r1 := Record.enter p .negotiating r
    if offer = 0 then (s.putRecord h r1).failAttempt h .noCommon
    else
      (s.putRecord h { r1 with
        attempt := some { phase := .offered, offer := offer, rerun := false }
        timer := s.startTimer (10 * p.negTimeout) }).sendDown r.line (.negotiate r.station offer)

/-- Give the grant of a line to the record next in turn, while it is free, the line is UP and the
queue is not empty (R83), at most `fuel` times. -/
def handOutLoop : Nat → LineId → State → State
  | 0, _, s => s
  | fuel + 1, l, s =>
    if s.arbiters[l].grant.isSome || !s.lineIsUp l then s
    else match s.arbiters[l].next? with
      | none => s
      | some h => handOutLoop fuel l ((s.modArbiter l Arbiter.giveGrant).startAttempt l h)

/-- The hand-out at the end of an event (R83). It ends after at most twice as many turns as the queue holds records. -/
def State.handOut (s : State) (l : LineId) : State :=
  handOutLoop (2 * (s.arbiters[l].urgent.length + s.arbiters[l].normal.length)) l s

/-- ABANDON is handed, and the attempt of a record fails (R97); then the hand-out. -/
def State.abandonAndFail (s : State) (h : Handle) (r : Record) (reason : FailReason) : State :=
  ((s.sendAbandon r).failAttempt h reason).handOut r.line

/-- An attempt succeeds at its ordered step (R95). -/
def State.succeed (s : State) (h : Handle) (r : Record) (k : Step) : State :=
  let p := s.profileOf r.profile
  let r1 := Record.takeAgreed p k r
  let r2 := { r1 with
    attempt := none, cause := none, timer := none, attempts := 0, carrier := .up, forwardBlocked := false }
  (((s.releaseGrant r.line).putRecord h (Record.enter p .agreed r2)).postCheck h).handOut r.line

end Sys2Proof.Machine
end

