-- ==== Sys2Proof/Machine/Table.lean ====
section
/-! DEFINITION. Allocation, admission and leaving the table (R14 to R19, R22). -/

namespace Sys2Proof.Machine

/-- The next value of an epoch: the cycle 1, 2, …, 4095, 1 (R2). -/
def Epoch.next (e : Epoch) : Epoch := if e = 4095 then 1 else e + 1

/-- The slot an allocation chooses: the lowest free one, else the lowest vacated one (R14). -/
def State.chooseSlot (s : State) : Option Handle :=
  ((List.finRange 256).find? fun h => s.slots[h].body.isFree).or
    ((List.finRange 256).find? fun h => s.slots[h].body.isVacated)

/-- Allocate a slot to a new record: its epoch steps (R2), and NOTICE_LOST is set when a vacated slot
is reclaimed (R15). -/
def State.allocate (s : State) (h : Handle) (r : Record) : State :=
  let s1 := if s.slots[h].body.isVacated then s.setNoticeLost else s
  { s1 with slots := s1.slots.set h { epoch := Epoch.next s.slots[h].epoch, body := .live r } }

/-- A record with the creation values of Table 2-1. -/
def newRecord (l : LineId) (st : Station) (profile : Fin 16) (mask : Option StepSet)
    (state : RecState) (cause : Cause) : Record :=
  { line := l, station := st, profile := profile, state := state, cause := some cause, attempt := none,
    remoteMask := mask, agreed := none, generation := 0, capOverride := none, quality := none,
    riseCount := 0, fallCount := 0, forwardBlocked := false, attempts := 0, carrier := .unknown,
    holds := 0, changes := 0, timer := none }

/-- The state a record is created in (R17, R18). -/
def State.firstState (s : State) (l : LineId) : RecState :=
  if s.lineIsUp l then .waiting else .parked

/-- What becomes of an admission after the EXISTS test (R16, R19). -/
inductive Admission where
  | overQuota
  | tableFull
  | placed (h : Handle) (s : State)
deriving DecidableEq, Repr

/-- Tests 2 and 3 of R16 and the creation of the record (R17, R18). The hand-out is made by the event. -/
def State.place (s : State) (l : LineId) (st : Station) (profile : Fin 16)
    (mask : Option StepSet) (cause : Cause) : Admission :=
  if s.lines[l].quota ≤ s.liveCount l then .overQuota
  else match s.chooseSlot with
    | none => .tableFull
    | some h =>
      let p := s.profileOf profile
      let r0 := newRecord l st profile mask (s.firstState l) cause
      let r1 := Record.note p kindState r0
      let r2 := if mask.isSome then Record.note p kindRemote r1 else r1
      let s1 := s.allocate h r2
      .placed h (if s.lineIsUp l then s1.modArbiter l (Arbiter.join h cause) else s1)

/-- The leaving step (R22): RETIRED is recorded, and the slot becomes vacated with the change set, or
free when the set is empty. Key, count, timer and holds go with the record. -/
def State.leaveTable (s : State) (h : Handle) : State := match s.record? h with
  | none => s
  | some r =>
    let c := (Record.note (s.profileOf r.profile) kindRetired r).changes
    s.setBody h (if c = 0 then .free else .vacated r.line r.station c)

end Sys2Proof.Machine
end

