-- ==== Sys2Proof/Machine/Lines.lean ====
section
/-! DEFINITION. The line state machine, the silence timer and the treatment of a line's records (R63 to R68, R104, R115, R118). -/

namespace Sys2Proof.Machine

/-- A report link frame is taken: the part takes events, and the receiver has found its first idle (R169). -/
def State.hears (s : State) (l : LineId) : Bool := s.running && !s.lines[l].rxWaitsIdle

/-- A line takes a state; STATE is recorded if it changes (R66). -/
def Line.enter (st : LineState) (l : Line) : Line :=
  if l.state = st then l else Line.note lineKindState { l with state := st }

/-- The line takes a ceiling; CEILING is recorded if it changes (R67). -/
def Line.takeCeiling (k : Step) (l : Line) : Line :=
  if l.ceiling = k then l else Line.note lineKindCeiling { l with ceiling := k }

/-- The silence timer is started with the keepalive interval in force (R65). -/
def Line.restartSilence (now : Nat) (l : Line) : Line :=
  { l with silence := some { start := now, duration := 10 * l.keepalive } }

/-- A line enters LOST: STATE and FAULT are recorded, the silence timer stops (R63, R65). -/
def Line.lose (l : Line) : Line :=
  Line.note lineKindFault { Line.enter .lost l with silence := none }

/-- The state a valid frame other than LINE leaves a line in (Table 5-5). -/
def LineState.heard : LineState → LineState
  | .absent => .down
  | .lost => .down
  | st => st

/-- A valid frame other than LINE, before its station part (R64): the run is cleared, an ABSENT or LOST line comes
DOWN, the silence timer is restarted. -/
def State.heardFrame (s : State) (l : LineId) : State :=
  s.modLine l fun ln =>
    Line.restartSilence s.now { Line.enter ln.state.heard ln with badRun := 0 }

/-- A record of a line that leaves UP (Table 7-4). -/
def Record.lineLeftUp (s : State) (r : Record) : Record :=
  let p := s.profileOf r.profile
  match r.state with
  | .negotiating => Record.enter p .parked (Record.dropAgreed p { r with attempt := none, timer := none })
  | .waiting => Record.enter p .parked (Record.dropAgreed p r)
  | .backoff => Record.enter p .parked { r with timer := none }
  | .agreed =>
    Record.enter p .holdover { r with carrier := .down, timer := s.startTimer (10 * p.holdoverTime) }
  | .holdover => r
  | .parked => r
  | .failed => r
  | .retiring => r

/-- The treatment of a line leaving UP (R68, R115, R116): the records in ascending handle order, then the
grant is free and the queue empty. -/
def State.lineLeavesUp (s : State) (l : LineId) : State :=
  (s.forHandles fun h s => match s.record? h with
    | none => s
    | some r => if r.line = l then s.putRecord h (Record.lineLeftUp s r) else s).modArbiter l
      fun _ => Arbiter.reset

/-- The treatment of a line becoming UP (R118): every PARKED record of the line, in ascending handle
order, enters WAITING with cause LINE_UP; then the hand-out. -/
def State.lineBecomesUp (s : State) (l : LineId) : State :=
  (s.forHandles fun h s => match s.record? h with
    | none => s
    | some r => if r.line = l ∧ r.state = .parked then s.requeue h .lineUp else s).handOut l

/-- One record above a lowered line ceiling (Table 6-9). -/
def State.ceilingVisit (s : State) (l : LineId) (ceiling : Step) (h : Handle) : State :=
  match s.record? h with
  | none => s
  | some r => match r.agreed with
    | none => s
    | some k =>
      if r.line = l ∧ ceiling < k then
        match r.state with
        | .agreed => s.requeue h .lineCeiling
        | .holdover => s.requeue h .lineCeiling
        | .waiting => if s.arbiters[l].normal.contains h then s.classMove h .lineCeiling else s
        | .negotiating => s
        | .parked => s
        | .backoff => s
        | .failed => s
        | .retiring => s
      else s

/-- The treatment of a lowered line ceiling (R104), then the hand-out. -/
def State.ceilingLowered (s : State) (l : LineId) (ceiling : Step) : State :=
  (s.forHandles fun h s => s.ceilingVisit l ceiling h).handOut l

/-- The line goes LOST, and its records are treated if it was UP (R63, R65, R68). -/
def State.loseLine (s : State) (l : LineId) : State :=
  let s1 := s.modLine l Line.lose
  if s.lineIsUp l then s1.lineLeavesUp l else s1

end Sys2Proof.Machine
end

