-- ==== Sys2Proof/Machine/Formats.lean ====
section
/-! DEFINITION. Layouts: frames, queries and answers as bytes, and READ and LINE_READ results as words (R62, R140, R170 to R174). -/

namespace Sys2Proof.Machine

/-- The check byte of some bytes: the bitwise inverse of their modulo-256 sum (R62, R140, Table 13-5). -/
def checkByte (bytes : List Byte) : Byte := ~~~(bytes.foldl (· + ·) 0)

/-! ### Lanes (R171, R172) -/

/-- The levels of a byte on a lane, one for each of its ten bit times: the start bit low, the data bits with bit 0 first, the stop
bit high (R171). -/
def laneBits (b : Byte) : List Bool := false :: (List.finRange 8).map (fun i : Fin 8 => b.getLsbD i) ++ [true]

/-- The levels of bytes that follow each other without gaps (R171, R172). -/
def laneLevels (bytes : List Byte) : List Bool := bytes.flatMap laneBits

/-- The byte that eight data bits spell, bit 0 first (R171). -/
def byteOfBits (bits : List Bool) : Byte := BitVec.ofNat 8 (bits.foldr (fun b n => 2 * n + b.toNat) 0)

/-! ### Report link frames (Tables 13-2 and 13-3) -/

/-- Five bytes of a frame from its type, station and payload. -/
def frameBytes (type : BitVec 4) (station : Station) (payload : BitVec 16) : List Byte :=
  let head : List Byte :=
    [type ++ station.extractLsb' 8 4, station.extractLsb' 0 8, payload.extractLsb' 8 8,
      payload.extractLsb' 0 8]
  head ++ [checkByte head]

/-- A step in a payload byte. -/
def stepPayload (k : Step) : BitVec 16 := BitVec.ofNat 16 (Step.number k)

/-- The bytes of a downward frame (Table 13-3). -/
def DownFrame.bytes : DownFrame → List Byte
  | .negotiate st offer => frameBytes 8 st (offer.setWidth 16)
  | .order st k => frameBytes 9 st (stepPayload k)
  | .abandon st => frameBytes 10 st 0
  | .reset => frameBytes 11 0 0

/-- The bytes of an upward frame, its ignored fields zero (Table 13-3), for the commands that are upward frames. -/
def upwardBytes : Instr → Option (List Byte)
  | .lineUp _ k => some (frameBytes 1 0 (0x0100 ||| stepPayload k))
  | .lineDown _ => some (frameBytes 1 0 0)
  | .alive _ => some (frameBytes 2 0 0)
  | .capability _ st mask => some (frameBytes 3 st (mask.setWidth 16))
  | .outcome _ st .refused => some (frameBytes 4 st 1)
  | .outcome _ st .noResponse => some (frameBytes 4 st 2)
  | .confirm _ st k => some (frameBytes 5 st (stepPayload k))
  | .carrier _ st .down => some (frameBytes 6 st 0)
  | .carrier _ st .up => some (frameBytes 6 st 1)
  | .quality _ st v => some (frameBytes 7 st (v.setWidth 16))
  | _ => none

/-- A step payload byte, 1 to 12. -/
def stepOfByte (b : Byte) : Option Step :=
  if h : 1 ≤ b.toNat ∧ b.toNat ≤ 12 then some ⟨b.toNat - 1, by omega⟩ else none

/-- The frame that a valid type, station and payload spell on a line, if they do (R62, Table 13-3). -/
def upwardFrame (l : LineId) (type : BitVec 4) (st : Station) (hi lo : Byte) : Option Instr :=
  match type with
  | 1 =>
    if hi = 0 then some (.lineDown l)
    else if hi = 1 then (stepOfByte lo).map (.lineUp l)
    else none
  | 2 => some (.alive l)
  | 3 => if hi.toNat < 16 then some (.capability l st ((hi ++ lo).setWidth 12)) else none
  | 4 =>
    if lo = 1 then some (.outcome l st .refused)
    else if lo = 2 then some (.outcome l st .noResponse)
    else none
  | 5 => (stepOfByte lo).map (.confirm l st)
  | 6 =>
    if lo = 0 then some (.carrier l st .down)
    else if lo = 1 then some (.carrier l st .up)
    else none
  | 7 => some (.quality l st lo)
  | _ => none

/-- The command that bytes received as one frame are (R62): five bytes with the right check byte, a
type and a payload that Table 13-3 gives are that frame; anything else, a short frame too, is malformed. -/
def classifyFrame (l : LineId) (bytes : List Byte) : Instr := match bytes with
  | [b0, b1, b2, b3, c] =>
    if c = checkByte [b0, b1, b2, b3] then
      (upwardFrame l (b0.extractLsb' 4 4) (b0.extractLsb' 0 4 ++ b1) b2 b3).getD (.malformedFrame l)
    else .malformedFrame l
  | _ => .malformedFrame l

/-! ### The lookup link (Tables 13-4 and 13-5) -/

/-- Five bytes of a query from its code, tag and argument field (Table 13-4). -/
def queryBytes (code : BitVec 4) (tag : Tag) (arg : BitVec 24) : List Byte :=
  let head : List Byte :=
    [code ++ tag, arg.extractLsb' 16 8, arg.extractLsb' 8 8, arg.extractLsb' 0 8]
  head ++ [checkByte head]

/-- The bytes of a query, its ignored bits zero, for the commands that are queries. -/
def lookupBytes : Instr → Option (List Byte)
  | .lookupFind tag l st => some (queryBytes 1 tag ((0 : BitVec 4) ++ l ++ (0 : BitVec 4) ++ st))
  | .peek tag h e => some (queryBytes 2 tag ((0 : BitVec 3) ++ h ++ e))
  | .hold tag h e => some (queryBytes 3 tag ((0 : BitVec 3) ++ h ++ e))
  | .release tag h e => some (queryBytes 4 tag ((0 : BitVec 3) ++ h ++ e))
  | _ => none

/-- The command that bytes received as one query are, judged by R140: tests 1, 2 and 3 in that order. The tag is
that of the first byte, as received. -/
def classifyQuery (bytes : List Byte) : Instr := match bytes with
  | [b0, b1, b2, b3, c] =>
    let tag : Tag := b0.extractLsb' 0 4
    let arg : BitVec 24 := b1 ++ b2 ++ b3
    let line : BitVec 4 := arg.extractLsb' 16 4
    let low : BitVec 12 := arg.extractLsb' 0 12
    let handle : BitVec 9 := arg.extractLsb' 12 9
    if c = checkByte [b0, b1, b2, b3] then
      match b0.extractLsb' 4 4 with
      | 1 => if line.toNat < 8 then .lookupFind tag line low else .badQuery tag
      | 2 => if handle.toNat < 256 then .peek tag handle low else .badQuery tag
      | 3 => if handle.toNat < 256 then .hold tag handle low else .badQuery tag
      | 4 => if handle.toNat < 256 then .release tag handle low else .badQuery tag
      | _ => .badQuery tag
    else .badQuery tag
  | b0 :: _ => .badQuery (b0.extractLsb' 0 4)
  | [] => .badQuery 0

/-- Status code of a lookup answer (Table 13-5). -/
def AnswerStatus.code : AnswerStatus → BitVec 4
  | .ok => 0
  | .notFound => 1
  | .stale => 2
  | .holdFull => 3
  | .retiring => 4
  | .notHeld => 5
  | .badQuery => 6

/-- The nine bytes of an answer (Table 13-5); without record content its bytes 1 to 7 are zero but for OVERRUN (R172). -/
def Answer.bytes (a : Answer) : List Byte :=
  let overrun : BitVec 1 := BitVec.ofBool a.overrun
  let body : List Byte := match a.content with
    | none => [overrun ++ (0 : BitVec 7), 0, 0, 0, 0, 0, 0]
    | some c =>
      [overrun ++ (0 : BitVec 3) ++ BitVec.ofNat 4 c.holds, BitVec.ofNat 8 c.handle.val,
        (0 : BitVec 1) ++ c.state.code ++ c.epoch.extractLsb' 8 4, c.epoch.extractLsb' 0 8,
        BitVec.ofNat 4 (stepCode c.agreed) ++ (0 : BitVec 4), c.generation.extractLsb' 8 8,
        c.generation.extractLsb' 0 8]
  let head : List Byte := (a.status.code ++ a.tag) :: body
  head ++ [checkByte head]

/-! ### SPI transactions (R157, R173) -/

/-- The direction (true for a read) and first word address of an SPI header word (R173). -/
def spiHeader (w : Word) : Bool × BitVec 5 := (w.getLsbD 15, w.extractLsb' 0 5)

/-- The address counter after a data word: it steps by one, from 1Fh back to 00h (R173). -/
def spiNext (address : BitVec 5) : BitVec 5 := address + 1

/-- The word that sixteen bits spell, most significant first (R173). -/
def wordOfBits (bits : List Bool) : Word := BitVec.ofNat 16 (bits.foldl (fun n b => 2 * n + b.toNat) 0)

/-- The sixteen bits of a word, most significant first (R173). -/
def bitsOfWord (w : Word) : List Bool := (List.finRange 16).map fun i : Fin 16 => w.getMsbD i

/-! ### Results of READ and LINE_READ (R174) -/

/-- A bit of a result word. -/
def bit (b : Bool) : BitVec 1 := BitVec.ofBool b

/-- The quality count and its direction (R174): at most one of the counts is nonzero. -/
def Record.countShown (r : Record) : BitVec 1 × BitVec 4 :=
  if r.riseCount ≠ 0 then (0, BitVec.ofNat 4 r.riseCount)
  else if r.fallCount ≠ 0 then (1, BitVec.ofNat 4 r.fallCount)
  else (0, 0)

/-- The ordered step of a record in phase ORDERED (R6). -/
def Record.orderedStep (r : Record) : Option Step := match r.attempt with
  | some a => match a.phase with
    | .ordered k => some k
    | .offered => none
  | none => none

/-- The offer of a record, zero when it has no attempt. -/
def Record.offerBits (r : Record) : StepSet := match r.attempt with
  | some a => a.offer
  | none => 0

/-- rerun is yes. -/
def Record.rerunYes (r : Record) : Bool := match r.attempt with
  | some a => a.rerun
  | none => false

/-- The quality value, zero when absent (R174). -/
def Record.qualityBits (r : Record) : BitVec 8 := match r.quality with
  | some q => q.value
  | none => 0

/-- The three-bit number of a line. -/
def lineBits (l : LineId) : BitVec 3 := BitVec.ofNat 3 l.val

/-- A key in a READ word: bits 14 to 12 the line, 11 to 0 the station (Table 13-9). -/
def keyWord (top : BitVec 1) (l : LineId) (st : Station) : Word := top ++ lineBits l ++ st

/-- The results of READ for a slot (Table 13-9). -/
def readWords (slot : Slot) : List Word := match slot.body with
  | .free => [slot.body.code ++ (0 : BitVec 2) ++ slot.epoch]
  | .vacated l st c =>
    [slot.body.code ++ (0 : BitVec 2) ++ slot.epoch, keyWord 0 l st, c.setWidth 16]
  | .live r =>
    [slot.body.code ++ r.carrier.code ++ slot.epoch,
      keyWord (bit r.rerunYes) r.line r.station,
      BitVec.ofNat 4 r.profile.val ++ r.state.code ++ causeCode r.cause ++ r.changes,
      BitVec.ofNat 4 (stepCode r.orderedStep) ++ r.offerBits,
      bit r.remoteMask.isSome ++ bit r.timer.isSome ++ bit r.forwardBlocked ++ r.countShown.1 ++
        r.remoteMask.getD 0,
      r.generation,
      BitVec.ofNat 4 (stepCode r.agreed) ++ BitVec.ofNat 4 (stepCode r.capOverride) ++
        qualityCeilingCode r.quality ++ BitVec.ofNat 4 r.attempts,
      r.qualityBits ++ BitVec.ofNat 4 r.holds ++ r.countShown.2]

/-- The results of LINE_READ for a line with its live record count (Table 13-10). -/
def lineWords (ln : Line) (liveCount : Nat) : List Word :=
  [BitVec.ofNat 4 ln.defaultProfile.val ++ (0 : BitVec 3) ++ bit (decide (ln.mode = .opened)) ++
      BitVec.ofNat 4 (Step.number ln.ceiling) ++ (0 : BitVec 2) ++ ln.state.code,
    BitVec.ofNat 8 ln.keepalive ++ (0 : BitVec 1) ++ BitVec.ofNat 7 ln.quota,
    bit ln.silence.isSome ++ (0 : BitVec 11) ++ BitVec.ofNat 4 ln.badRun,
    (0 : BitVec 9) ++ BitVec.ofNat 7 liveCount,
    (0 : BitVec 11) ++ ln.changes,
    (0 : BitVec 8) ++ BitVec.ofNat 8 ln.txQueue.length]

end Sys2Proof.Machine
end

