-- ==== Sys2Proof/Machine/Port.lean ====
section
/-! DEFINITION. The host command port: the register window, the start and the completion of a command (R156 to R165). -/

namespace Sys2Proof.Machine

/-- What a command's owner makes of it: done with a status and result words, or a sweep that goes on (R159, R165). -/
inductive CmdResult where
  | done (s : State) (status : Status) (res : List Word)
  | running (s : State)
deriving DecidableEq, Repr

/-- An argument word (R159 item 4). -/
def State.arg (s : State) (i : Fin 6) : Word := s.port.args[i]

/-- Result words as they stand after a completion: those named, from RES0 upward; the others zero (R159, R164). -/
def resWords (res : List Word) : Vector Word 8 := Vector.ofFn fun i : Fin 8 => res.getD i.val 0

/-- Completion (R164): results, status, GO zero, COMMAND_DONE set. -/
def State.complete (s : State) (status : Status) (res : List Word) : State :=
  { s with
    port := { s.port with res := resWords res, status := status.code, go := false }
    flags := { s.flags with commandDone := true } }

/-- Items 1 to 3 of the start (R159): GO one, COMMAND_DONE clear, results and status zero. -/
def State.began (s : State) : State :=
  { s with
    port := { s.port with go := true, res := Vector.replicate 8 0, status := 0 }
    flags := { s.flags with commandDone := false } }

/-- Start a command and take it (R159); it completes in the same event unless its sweep goes on (R165). -/
def State.startCommand (s : State) (body : State → CmdResult) : State := match body s.began with
  | .done s1 status res => s1.complete status res
  | .running s1 => s1

/-- MAILBOX_BUSY is set by a mailbox write that is ignored (R161). -/
def State.setMailboxBusy (s : State) : State := { s with port := { s.port with mailboxBusy := true } }

/-- The code and the first argument words are stored, the other argument words keep their values (R158). -/
def HostPort.load (p : HostPort) (code : Word) (args : List Word) : HostPort :=
  { p with mailbox := code, args := Vector.ofFn fun i : Fin 6 => args.getD i.val p.args[i] }

/-- A host command: its code and arguments are written and GO is written (log 1). While GO reads one all these
writes are ignored and MAILBOX_BUSY is set (R160). While the part is held in reset no write is taken (R169). -/
def State.issue (s : State) (code : Word) (args : List Word) (body : State → CmdResult) : State :=
  if !s.running then s
  else if s.port.go then s.setMailboxBusy
  else ({ s with port := s.port.load code args } : State).startCommand body

/-! ### Words of the window (R156, Table 13-6) -/

/-- A write to MAILBOX or an argument word: stored while GO reads zero (R158), else ignored with MAILBOX_BUSY set (R160). -/
def State.writeMailbox (s : State) (w : MailboxWord) (v : Word) : State :=
  if s.port.go then s.setMailboxBusy
  else match w with
    | .code => { s with port := { s.port with mailbox := v } }
    | .arg i => { s with port := { s.port with args := s.port.args.set i v } }

/-- A write to FLAGS (R151). -/
def State.writeFlags (s : State) (v : Word) : State := { s with flags := s.flags.clear v }

/-- A write to ENABLES: bits not named are ignored (R152, Table 13-6). -/
def State.writeEnables (s : State) (v : Word) : State := { s with enables := v &&& Config.enablesMask }

/-- A write to PORT_STATUS (R161): a one in bit 0 clears MAILBOX_BUSY. -/
def State.writePortStatus (s : State) (v : Word) : State :=
  { s with port := { s.port with mailboxBusy := s.port.mailboxBusy && !v.getLsbD 0 } }

/-- The word a read of the window returns (R156, Table 13-6). Held in reset, a read returns zero (R169). -/
def State.readWord (s : State) (address : BitVec 5) : Word :=
  let a := address.toNat
  if !s.running then 0
  else if a = 0x00 then Config.idPart
  else if a = 0x01 then Config.idRev
  else if a = 0x02 then bit s.port.go ++ (0 : BitVec 11) ++ s.port.status
  else if a = 0x03 then (0 : BitVec 15) ++ bit s.port.mailboxBusy
  else if a = 0x04 then s.flagsWord
  else if a = 0x05 then s.enables
  else if a = 0x06 then s.causeWord
  else if a = 0x07 then s.port.mailbox
  else if h : 0x08 ≤ a ∧ a ≤ 0x0D then s.port.args[a - 0x08]'(by omega)
  else if h : 0x0E ≤ a ∧ a ≤ 0x15 then s.port.res[a - 0x0E]'(by omega)
  else 0

/-- A record's state as a result word, after the command with any hand-out. -/
def State.stateWord (s : State) (h : Handle) : Word := match s.record? h with
  | some r => r.state.code.setWidth 16
  | none => 0

/-- A step or none as a result word (Table 13-1). -/
def stepWord (k : Option Step) : Word := wordOf (stepCode k)

/-- A handle as a result word. -/
def handleWord (h : Handle) : Word := wordOf h.val

/-- The line of a key as a result word. -/
def lineWord (l : LineId) : Word := wordOf l.val

end Sys2Proof.Machine
end

