-- ==== Sys2Proof/Machine/HostLines.lean ====
section
/-! DEFINITION. The host commands of the line interfaces (R75 to R78). -/

namespace Sys2Proof.Machine

/-- An admission mode argument: 0 CLOSED, 1 OPEN (R75). -/
def modeOf (m : Fin 2) : AdmissionMode := if m.val = 1 then .opened else .closed

/-- LINE_CONFIG (R75). -/
def cmdLineConfig (s : State) : CmdResult :=
  match Word.below 8 (s.arg 0), Word.inRange? 0 64 (s.arg 1), Word.below 2 (s.arg 2),
    Word.below 16 (s.arg 3), Word.inRange? 1 255 (s.arg 4) with
  | some l, some quota, some mode, some p, some keepalive =>
    let count := wordOf (s.liveCount l)
    if !s.isValid p then .done s .badArg []
    else if quota < s.liveCount l then .done s .inUse [count]
    else
      .done (s.modLine l fun ln =>
        { ln with quota := quota, mode := modeOf mode, defaultProfile := p, keepalive := keepalive }) .ok [count]
  | _, _, _, _, _ => .done s .badArg []

/-- LINE_READ (R76, R174). -/
def cmdLineRead (s : State) : CmdResult := match Word.below 8 (s.arg 0) with
  | some l => .done s .ok (lineWords s.lines[l] (s.liveCount l))
  | none => .done s .badArg []

/-- A line under LINE_RESET (R77 items 1 to 3): the queue holds RESET alone, a frame in transmission goes on. -/
def Line.resetEngine (now : Nat) (ln : Line) : Line :=
  Line.restartSilence now { Line.enter .down ln with txQueue := [.reset], badRun := 0 }

/-- LINE_RESET (R77). -/
def cmdLineReset (s : State) : CmdResult := match Word.below 8 (s.arg 0) with
  | some l =>
    .done ((s.modLine l (Line.resetEngine s.now)).lineLeavesUp l) .ok [s.lines[l].state.code.setWidth 16]
  | none => .done s .badArg []

/-- LINE_ACK (R78). -/
def cmdLineAck (s : State) : CmdResult :=
  match Word.below 8 (s.arg 0), Word.kinds? (s.arg 1) with
  | some l, some kinds =>
    let left := s.lines[l].changes &&& ~~~kinds
    .done (s.modLine l fun ln => { ln with changes := left }) .ok [left.setWidth 16]
  | _, _ => .done s .badArg []

end Sys2Proof.Machine
end

