-- ==== Sys2Proof/Machine/HostStores.lean ====
section
/-! DEFINITION. The host commands of the Profile Store and the Ladder Store (R32 to R36, R45, R46). -/

namespace Sys2Proof.Machine

/-- PROFILE_STAGE (R32). -/
def cmdProfileStage (s : State) : CmdResult := match Word.below 14 (s.arg 0) with
  | none => .done s .badArg []
  | some n => match s.staging.withField? n (s.arg 1) with
    | none => .done s .badArg []
    | some p => .done { s with staging := p } .ok []

/-- PROFILE_LOAD (R33). -/
def cmdProfileLoad (s : State) : CmdResult := match Word.below 16 (s.arg 0) with
  | none => .done s .badArg []
  | some n => match s.profiles[n] with
    | none => .done s .notFound []
    | some p => .done { s with staging := p } .ok []

/-- PROFILE_COMMIT up to its sweep (R35, R36): validation, the copy, and the sweep that begins at handle 0 (R37). -/
def cmdProfileCommit (s : State) : CmdResult := match Word.below 16 (s.arg 0) with
  | none => .done s .badArg []
  | some n => match s.staging.failedCheck with
    | some c => .done s .badArg [wordOf c]
    | none =>
      .running { s with
        profiles := s.profiles.set n (some s.staging)
        sweep := some { profile := n, cursor := 0, visited := 0, requeued := 0, parked := 0, rerun := 0 } }

/-- PROFILE_READ (R34); number 16 is the staging profile. -/
def cmdProfileRead (s : State) : CmdResult :=
  match Word.below 17 (s.arg 0), Word.below 14 (s.arg 1) with
  | some n, some f =>
    if h : n.val < 16 then match s.profiles[n.val] with
      | none => .done s .notFound []
      | some p => .done s .ok [p.field f, s.validSet]
    else .done s .ok [s.staging.field f, s.validSet]
  | _, _ => .done s .badArg []

/-- LADDER_WRITE (R45). -/
def cmdLadderWrite (s : State) : CmdResult :=
  match Word.below 4 (s.arg 0), Word.step? (s.arg 1), Word.below 256 (s.arg 2), Word.below 256 (s.arg 3) with
  | some l, some k, some rise, some fall =>
    let g : Rung := { rise := BitVec.ofNat 8 rise.val, fall := BitVec.ofNat 8 fall.val }
    match Ladder.failedTest s.ladders[l] k g with
    | some t => .done s .badArg [wordOf t]
    | none => .done { s with ladders := s.ladders.set l (s.ladders[l].set k g) } .ok []
  | _, _, _, _ => .done s .badArg []

/-- The profiles whose LADDER names a ladder (R46). -/
def State.ladderUsers (s : State) (l : Fin 4) : Word :=
  BitVec.ofFnLE fun p : Fin 16 => s.profiles[p].any fun q => decide (q.ladder = l)

/-- LADDER_READ (R46). -/
def cmdLadderRead (s : State) : CmdResult :=
  match Word.below 4 (s.arg 0), Word.step? (s.arg 1) with
  | some l, some k =>
    .done s .ok
      [s.ladders[l][k].rise.setWidth 16, s.ladders[l][k].fall.setWidth 16, s.ladderUsers l]
  | _, _ => .done s .badArg []

end Sys2Proof.Machine
end

