-- ==== Sys2Proof/Machine/HostTable.lean ====
section
/-! DEFINITION. The host commands that act on the agreement table, IDENT and UNKNOWN_COMMAND. -/

namespace Sys2Proof.Machine

/-- ADMIT (R16, R17). -/
def cmdAdmit (s : State) : CmdResult :=
  match Word.below 8 (s.arg 0), Word.twelve? (s.arg 1), Word.below 16 (s.arg 2) with
  | some l, some st, some p =>
    if !s.isValid p then .done s .badArg []
    else if (s.findKey l st).isSome then .done s .keyExists []
    else match s.place l st p none .initial with
      | .overQuota => .done s .quota []
      | .tableFull => .done s.setTableFull .full []
      | .placed h s1 =>
        .done (s1.handOut l) .ok
          [handleWord h, s1.slots[h].epoch.setWidth 16, (s.firstState l).code.setWidth 16]
  | _, _, _ => .done s .badArg []

/-- FIND (R24). -/
def cmdFind (s : State) : CmdResult :=
  match Word.below 8 (s.arg 0), Word.twelve? (s.arg 1) with
  | some l, some st =>
    match s.findKey l st with
    | none => .done s .notFound []
    | some h => match s.record? h with
      | none => .done s .notFound []
      | some r =>
        .done s .ok
          [handleWord h, s.slots[h].epoch.setWidth 16, r.state.code.setWidth 16, stepWord r.agreed,
            r.generation]
  | _, _ => .done s .badArg []

/-- READ (R25, R174). -/
def cmdRead (s : State) : CmdResult := match Word.below 256 (s.arg 0) with
  | some h => .done s .ok (readWords s.slots[h])
  | none => .done s .badArg []

/-- What binding to a profile does to the record beyond the binding itself (R42 item 2): the compliance test of R38 for
AGREED and HOLDOVER, rerun for NEGOTIATING. -/
def State.rebindReact (s : State) (h : Handle) (r : Record) : State := match r.state with
  | .agreed => if r.agreed.any (nonCompliant (s.profileOf r.profile)) then s.requeue h .profile else s
  | .holdover => if r.agreed.any (nonCompliant (s.profileOf r.profile)) then s.requeue h .profile else s
  | .negotiating => s.putRecord h { r with attempt := r.attempt.map fun a => { a with rerun := true } }
  | .waiting => s
  | .backoff => s
  | .parked => s
  | .failed => s
  | .retiring => s

/-- REBIND (R42). -/
def cmdRebind (s : State) : CmdResult :=
  match Word.below 256 (s.arg 0), Word.twelve? (s.arg 1), Word.below 16 (s.arg 2) with
  | some h, some e, some p =>
    if !s.isValid p then .done s .badArg []
    else match s.named? h e with
      | none => .done s .stale []
      | some r =>
        if r.state = .retiring then .done s .busy []
        else
          let r1 := { r with profile := p }
          let s1 := ((s.putRecord h r1).rebindReact h r1).handOut r.line
          .done s1 .ok [wordOf r.profile.val, s1.stateWord h]
  | _, _, _ => .done s .badArg []

/-- The reaction of a record to its new cap override (Table 6-11). -/
def State.capReact (s : State) (h : Handle) (r : Record) : State :=
  let exceeds := r.agreed.any (aboveOverride r.capOverride)
  match r.state with
  | .agreed => if exceeds then s.requeue h .qualityDown else s
  | .holdover => if exceeds then s.requeue h .qualityDown else s
  | .waiting =>
    if exceeds && s.arbiters[r.line].normal.contains h then s.classMove h .qualityDown else s
  | .negotiating => s.putRecord h { r with attempt := r.attempt.map fun a => { a with rerun := true } }
  | .parked => s
  | .backoff => s
  | .failed => s
  | .retiring => s

/-- CAP (R106). -/
def cmdCap (s : State) : CmdResult :=
  match Word.below 256 (s.arg 0), Word.twelve? (s.arg 1), Word.below 13 (s.arg 2) with
  | some h, some e, some _ => match s.named? h e with
    | none => .done s .stale []
    | some r =>
      if r.state = .retiring then .done s .busy []
      else
        let r1 := { r with capOverride := Word.step? (s.arg 2) }
        let s1 := ((s.putRecord h r1).capReact h r1).handOut r.line
        .done s1 .ok [stepWord r.capOverride, s1.stateWord h]
  | _, _, _ => .done s .badArg []

/-- RENEGOTIATE (R105). -/
def cmdRenegotiate (s : State) : CmdResult :=
  match Word.below 256 (s.arg 0), Word.twelve? (s.arg 1) with
  | some h, some e => match s.named? h e with
    | none => .done s .stale []
    | some r =>
      let accept (s1 : State) : CmdResult :=
        let s2 := s1.handOut r.line
        .done s2 .ok [s2.stateWord h]
      match r.state with
      | .agreed => if s.lineIsUp r.line then accept (s.requeue h .host) else .done s .lineDown []
      | .failed => accept ((s.putRecord h { r with attempts := 0 }).requeue h .host)
      | .backoff => accept (s.requeue h (r.cause.getD .initial))
      | .waiting => .done s .busy []
      | .negotiating => .done s .busy []
      | .holdover => .done s .busy []
      | .parked => .done s .lineDown []
      | .retiring => .done s .busy []
  | _, _ => .done s .badArg []

/-- A grace argument of RETIRE (R125): a grace, or `none` inside for the profile default. -/
def graceArg? (w : Word) : Option (Option Grace) :=
  if w = graceFromProfile then some none else (Grace.ofWord? w).map some

/-- What the line loses when RETIRE detaches a record (Table 8-1): an attempt ends with ABANDON and the grant is released, a
WAITING record leaves the queue, an agreement ends with ABANDON. -/
def State.detach (s : State) (h : Handle) (r : Record) : State := match r.state with
  | .negotiating => (s.releaseGrant r.line).sendAbandon r
  | .waiting => s.modArbiter r.line (Arbiter.leave h)
  | .agreed => s.sendAbandon r
  | .holdover => s.sendAbandon r
  | .backoff => s
  | .parked => s
  | .failed => s
  | .retiring => s

/-- The timer a grace starts (R127): none when UNBOUNDED. -/
def State.graceTimer (s : State) : Grace → Option Timer
  | .bounded n => s.startTimer (100 * n)
  | .unbounded => none

/-- RETIRE (R125 to R127). -/
def cmdRetire (s : State) : CmdResult :=
  match Word.below 256 (s.arg 0), Word.twelve? (s.arg 1), graceArg? (s.arg 2) with
  | some h, some e, some g => match s.named? h e with
    | none => .done s .stale []
    | some r =>
      if r.state = .retiring then .done s .busy []
      else
        let p := s.profileOf r.profile
        let grace := g.getD p.graceDefault
        let r1 := Record.dropAgreed p { r with attempt := none, timer := none, cause := none }
        let s1 := s.detach h r
        if r.holds = 0 then
          let s2 := (s1.putRecord h r1).leaveTable h
          .done (s2.handOut r.line) .ok
            [if s2.slots[h].body.isFree then 0 else 1, 0, 0]
        else
          let r2 := Record.enter p .retiring { r1 with timer := s.graceTimer grace }
          .done ((s1.putRecord h r2).handOut r.line) .ok [2, wordOf r.holds, grace.code]
  | _, _, _ => .done s .badArg []

/-- The line and station a slot holds, if it is live or vacated (R1). -/
def SlotBody.key? : SlotBody → Option (LineId × Station)
  | .free => none
  | .live r => some (r.line, r.station)
  | .vacated l st _ => some (l, st)

/-- NEXT_CHANGE (R145). -/
def cmdNextChange (s : State) : CmdResult := match Word.below 256 (s.arg 0) with
  | none => .done s .badArg []
  | some start =>
    match (List.finRange 256).find? fun h => start ≤ h && decide (s.slots[h].body.changes ≠ 0) with
    | none => .done s .notFound []
    | some h => match s.slots[h].body.key? with
      | none => .done s .notFound []
      | some (l, st) =>
        .done s .ok
          [handleWord h, s.slots[h].epoch.setWidth 16, if s.slots[h].body.isVacated then 1 else 0,
            s.slots[h].body.changes.setWidth 16, lineWord l, st.setWidth 16]

/-- The slot after kinds are removed from its set (R146): a vacated slot whose set becomes empty becomes free. -/
def SlotBody.acknowledge (kinds : BitVec 5) : SlotBody → SlotBody
  | .free => .free
  | .live r => .live { r with changes := r.changes &&& ~~~kinds }
  | .vacated l st c => if c &&& ~~~kinds = 0 then .free else .vacated l st (c &&& ~~~kinds)

/-- ACK_CHANGE (R146). -/
def cmdAckChange (s : State) : CmdResult :=
  match Word.below 256 (s.arg 0), Word.twelve? (s.arg 1), Word.kinds? (s.arg 2) with
  | some h, some e, some kinds =>
    if e = 0 ∨ s.slots[h].epoch ≠ e ∨ s.slots[h].body.isFree then .done s .stale []
    else
      let b := s.slots[h].body.acknowledge kinds
      .done (s.setBody h b) .ok [b.changes.setWidth 16, b.code.setWidth 16]
  | _, _, _ => .done s .badArg []

/-- ABANDON for the station of a record that is NEGOTIATING, AGREED or HOLDOVER (R26 item 1). -/
def State.clearVisit (s : State) (h : Handle) : State := match s.record? h with
  | none => s
  | some r => match r.state with
    | .negotiating => s.sendAbandon r
    | .agreed => s.sendAbandon r
    | .holdover => s.sendAbandon r
    | .parked => s
    | .waiting => s
    | .backoff => s
    | .failed => s
    | .retiring => s

/-- CLEAR_TABLE (R26): frames first, then every slot free with its epoch kept, every grant free and every queue empty. R26, R80
and R155 say that line change sets and LINE_EVENT are kept; an ABANDON that meets a full transmit queue records FAULT all the
same, as R74 gives for every frame handed (DESIGN CHOICE, log 19). -/
def cmdClearTable (s : State) : CmdResult :=
  let live := (List.finRange 256).countP fun h => s.slots[h].body.isLive
  let vacated := (List.finRange 256).countP fun h => s.slots[h].body.isVacated
  let s1 := s.forHandles fun h s => s.clearVisit h
  .done
    { s1 with
      slots := s1.slots.map fun x => { x with body := .free }
      arbiters := Vector.replicate 8 Arbiter.reset }
    .ok [wordOf live, wordOf vacated]

/-- IDENT (R166). -/
def cmdIdent (s : State) : CmdResult := .done s .ok [Config.idPart, Config.idRev]

/-- A code that is no command's (R163). -/
def cmdUnknown (s : State) : CmdResult := .done s .unknownCommand []

end Sys2Proof.Machine
end

