-- ==== Sys2Proof/Machine/HostPort.lean ====
section
/-! DEFINITION. The meanings of the host command rows and of the writes to the register window. -/

namespace Sys2Proof.Machine

/-- A command's outcome: no command of this part faults or is refused. -/
abbrev Result := Host.Outcome State Fault Refusal

/-- ADMIT (R16, R17). -/
def execAdmit (line station profile : Word) (s : State) : Result :=
  .next (s.issue 0x01 [line, station, profile] cmdAdmit)

/-- FIND (R24). -/
def execFind (line station : Word) (s : State) : Result := .next (s.issue 0x02 [line, station] cmdFind)

/-- READ (R25). -/
def execRead (handle : Word) (s : State) : Result := .next (s.issue 0x03 [handle] cmdRead)

/-- REBIND (R42). -/
def execRebind (handle epoch profile : Word) (s : State) : Result :=
  .next (s.issue 0x04 [handle, epoch, profile] cmdRebind)

/-- CAP (R106). -/
def execCap (handle epoch step : Word) (s : State) : Result :=
  .next (s.issue 0x05 [handle, epoch, step] cmdCap)

/-- RENEGOTIATE (R105). -/
def execRenegotiate (handle epoch : Word) (s : State) : Result :=
  .next (s.issue 0x06 [handle, epoch] cmdRenegotiate)

/-- RETIRE (R125 to R127). -/
def execRetire (handle epoch grace : Word) (s : State) : Result :=
  .next (s.issue 0x07 [handle, epoch, grace] cmdRetire)

/-- NEXT_CHANGE (R145). -/
def execNextChange (start : Word) (s : State) : Result := .next (s.issue 0x08 [start] cmdNextChange)

/-- ACK_CHANGE (R146). -/
def execAckChange (handle epoch kinds : Word) (s : State) : Result :=
  .next (s.issue 0x09 [handle, epoch, kinds] cmdAckChange)

/-- PROFILE_STAGE (R32). -/
def execProfileStage (field value : Word) (s : State) : Result :=
  .next (s.issue 0x10 [field, value] cmdProfileStage)

/-- PROFILE_LOAD (R33). -/
def execProfileLoad (profile : Word) (s : State) : Result := .next (s.issue 0x11 [profile] cmdProfileLoad)

/-- PROFILE_COMMIT (R35 to R37). -/
def execProfileCommit (profile : Word) (s : State) : Result :=
  .next (s.issue 0x12 [profile] cmdProfileCommit)

/-- PROFILE_READ (R34). -/
def execProfileRead (profile field : Word) (s : State) : Result :=
  .next (s.issue 0x13 [profile, field] cmdProfileRead)

/-- LADDER_WRITE (R45). -/
def execLadderWrite (ladder step rise fall : Word) (s : State) : Result :=
  .next (s.issue 0x18 [ladder, step, rise, fall] cmdLadderWrite)

/-- LADDER_READ (R46). -/
def execLadderRead (ladder step : Word) (s : State) : Result :=
  .next (s.issue 0x19 [ladder, step] cmdLadderRead)

/-- LINE_CONFIG (R75). -/
def execLineConfig (line quota mode profile keepalive : Word) (s : State) : Result :=
  .next (s.issue 0x20 [line, quota, mode, profile, keepalive] cmdLineConfig)

/-- LINE_READ (R76). -/
def execLineRead (line : Word) (s : State) : Result := .next (s.issue 0x21 [line] cmdLineRead)

/-- LINE_RESET (R77). -/
def execLineReset (line : Word) (s : State) : Result := .next (s.issue 0x22 [line] cmdLineReset)

/-- LINE_ACK (R78). -/
def execLineAck (line kinds : Word) (s : State) : Result := .next (s.issue 0x23 [line, kinds] cmdLineAck)

/-- CLEAR_TABLE (R26). -/
def execClearTable (s : State) : Result := .next (s.issue 0x30 [] cmdClearTable)

/-- IDENT (R166). -/
def execIdent (s : State) : Result := .next (s.issue 0x3F [] cmdIdent)

/-- The command a MAILBOX code names, or UNKNOWN_COMMAND (R162 stage 1, R163, Table 13-7). -/
def commandOf (code : Word) : State → CmdResult :=
  match code.toNat with
  | 0x01 => cmdAdmit
  | 0x02 => cmdFind
  | 0x03 => cmdRead
  | 0x04 => cmdRebind
  | 0x05 => cmdCap
  | 0x06 => cmdRenegotiate
  | 0x07 => cmdRetire
  | 0x08 => cmdNextChange
  | 0x09 => cmdAckChange
  | 0x10 => cmdProfileStage
  | 0x11 => cmdProfileLoad
  | 0x12 => cmdProfileCommit
  | 0x13 => cmdProfileRead
  | 0x18 => cmdLadderWrite
  | 0x19 => cmdLadderRead
  | 0x20 => cmdLineConfig
  | 0x21 => cmdLineRead
  | 0x22 => cmdLineReset
  | 0x23 => cmdLineAck
  | 0x30 => cmdClearTable
  | 0x3F => cmdIdent
  | _ => cmdUnknown

/-- A write of CTRL with GO one: while GO reads zero it starts the command in MAILBOX (R159), while GO reads one it is
ignored and sets MAILBOX_BUSY (R160). -/
def State.writeGo (s : State) : State :=
  if s.port.go then s.setMailboxBusy else s.startCommand (commandOf s.port.mailbox)

/-- UNKNOWN_COMMAND: GO is written with this value in MAILBOX (R163). A value that is a command's code starts that command
(log 11). -/
def execUnknownCommand (code : Word) (s : State) : Result := .next (s.issue code [] (commandOf code))

/-- GO_WHILE_BUSY: CTRL is written with GO one (R160). -/
def execGoWhileBusy (s : State) : Result := .next (if s.running then s.writeGo else s)

/-- MAILBOX_WRITE (R158, R160). -/
def execMailboxWrite (w : MailboxWord) (v : Word) (s : State) : Result :=
  .next (if s.running then s.writeMailbox w v else s)

/-- FLAGS_WRITE (R151). -/
def execFlagsWrite (v : Word) (s : State) : Result := .next (if s.running then s.writeFlags v else s)

/-- ENABLES_WRITE (R152). -/
def execEnablesWrite (v : Word) (s : State) : Result := .next (if s.running then s.writeEnables v else s)

/-- PORT_STATUS_WRITE (R161). -/
def execPortStatusWrite (v : Word) (s : State) : Result :=
  .next (if s.running then s.writePortStatus v else s)

/-- A write to any word of the window by its address (R156, Table 13-6): read-only words, unassigned addresses and CTRL with
GO zero ignore it. -/
def State.writeWord (s : State) (address : BitVec 5) (v : Word) : State :=
  let a := address.toNat
  if a = 0x02 then (if v.getLsbD 15 then s.writeGo else s)
  else if a = 0x03 then s.writePortStatus v
  else if a = 0x04 then s.writeFlags v
  else if a = 0x05 then s.writeEnables v
  else if a = 0x07 then s.writeMailbox .code v
  else if h : 0x08 ≤ a ∧ a ≤ 0x0D then s.writeMailbox (.arg ⟨a - 0x08, by omega⟩) v
  else s

/-- REGISTER_WRITE (R156). Its ignored writes change nothing; at the address of another word it is that word's write
(log 11). -/
def execRegisterWrite (address : BitVec 5) (v : Word) (s : State) : Result :=
  .next (if s.running then s.writeWord address v else s)

end Sys2Proof.Machine
end

