-- ==== Sys2Proof/Machine/Expiry.lean ====
section
/-! DEFINITION. Expiries of the record timers (R9, R93, R100, R113, R129). -/

namespace Sys2Proof.Machine

/-- An expiry of a record's timer. It occurs only while the timer runs in the given kind, which state and
phase determine (R9), and not before the accuracy of R10 lets it; an expiry that does not occur changes nothing (log 4). -/
def State.expire (s : State) (h : Handle) (kind : Record → Bool) (f : State → Record → State) : State :=
  match s.record? h with
  | none => s
  | some r => match r.timer with
    | none => s
    | some t => if s.running && s.mayExpire t && kind r then f s r else s

/-- The record is in phase OFFERED, so its timer is the negotiation timer (R9). -/
def Record.inOffered (r : Record) : Bool :=
  decide (r.state = .negotiating) && (r.attempt.any fun a => decide (a.phase = .offered))

/-- The record is in phase ORDERED, so its timer is the confirm timer (R9). -/
def Record.inOrdered (r : Record) : Bool :=
  decide (r.state = .negotiating) && (r.attempt.any fun a => decide (a.phase ≠ .offered))

/-- NEGOTIATION_TIMER_EXPIRY (R93): ABANDON, then failure with TIMEOUT. -/
def execNegotiationTimerExpiry (h : Handle) (s : State) : Result :=
  .next (s.expire h Record.inOffered fun s r => s.abandonAndFail h r .timeout)

/-- CONFIRM_TIMER_EXPIRY (R93): ABANDON, then failure with TIMEOUT. -/
def execConfirmTimerExpiry (h : Handle) (s : State) : Result :=
  .next (s.expire h Record.inOrdered fun s r => s.abandonAndFail h r .timeout)

/-- HOLDOVER_EXPIRY (R113): the agreed step becomes absent; WAITING or PARKED with cause HOLDOVER_EXPIRY. -/
def execHoldoverExpiry (h : Handle) (s : State) : Result :=
  .next (s.expire h (fun r => decide (r.state = .holdover)) fun s r =>
    ((s.putRecord h (Record.dropAgreed (s.profileOf r.profile) r)).requeue h .holdoverExpiry).handOut r.line)

/-- BACKOFF_EXPIRY (R100): WAITING in the class of the kept cause. -/
def execBackoffExpiry (h : Handle) (s : State) : Result :=
  .next (s.expire h (fun r => decide (r.state = .backoff)) fun s r =>
    (s.requeue h (r.cause.getD .initial)).handOut r.line)

/-- GRACE_EXPIRY (R129): the record leaves the table. -/
def execGraceExpiry (h : Handle) (s : State) : Result :=
  .next (s.expire h (fun r => decide (r.state = .retiring)) fun s _ => s.leaveTable h)

end Sys2Proof.Machine
end

