-- ==== Sys2Proof/Machine/Frames.lean ====
section
/-! DEFINITION. Upward frames, malformed frames, the silence expiry and the transmit lane (R48 to R58, R62 to R74, R88 to R92, R102, R109 to R112). -/

namespace Sys2Proof.Machine

/-! ### Line frames -/

/-- A valid LINE UP frame (R64, R66, R67, R68): the line first, then its records as for a line becoming UP or a lowered
ceiling. -/
def State.takeLineUp (s : State) (l : LineId) (ceiling : Step) : State :=
  let before := s.lines[l]
  let s1 := s.modLine l fun ln =>
    Line.restartSilence s.now
      (Line.takeCeiling ceiling { Line.enter .up ln with badRun := 0 })
  if before.state ≠ .up then s1.lineBecomesUp l
  else if ceiling < before.ceiling then s1.ceilingLowered l ceiling
  else s1

/-- A valid LINE DOWN frame (R64, R66, R68). -/
def State.takeLineDown (s : State) (l : LineId) : State :=
  let s1 := s.modLine l fun ln =>
    Line.restartSilence s.now { Line.enter .down ln with badRun := 0 }
  if s.lineIsUp l then s1.lineLeavesUp l else s1

/-- A malformed frame (R63): the run rises up to 8, and reaching 8 loses a DOWN or UP line. -/
def State.takeMalformed (s : State) (l : LineId) : State :=
  let run := s.lines[l].badRun
  let s1 := s.modLine l fun ln => { ln with badRun := min (run + 1) Config.badRunLimit }
  if run + 1 = Config.badRunLimit ∧ (s.lines[l].state = .down ∨ s.lines[l].state = .up) then s1.loseLine l
  else s1

/-- LINE_UP (R66, R67). -/
def execLineUp (l : LineId) (ceiling : Step) (s : State) : Result :=
  .next (if s.hears l then s.takeLineUp l ceiling else s)

/-- LINE_DOWN (R66). -/
def execLineDown (l : LineId) (s : State) : Result := .next (if s.hears l then s.takeLineDown l else s)

/-- ALIVE (R64, R66). -/
def execAlive (l : LineId) (s : State) : Result := .next (if s.hears l then s.heardFrame l else s)

/-- MALFORMED_FRAME (R63). -/
def execMalformedFrame (l : LineId) (s : State) : Result :=
  .next (if s.hears l then s.takeMalformed l else s)

/-! ### Station frames: routing (R69 to R72) -/

/-- A line change kind is recorded (R61). -/
def State.noteLine (s : State) (l : LineId) (kind : BitVec 5) : State := s.modLine l (Line.note kind)

/-- A station frame other than CAPABILITY: it finds a live record, or it is discarded with UNKNOWN (R69, R71). -/
def State.toStation (s : State) (l : LineId) (st : Station)
    (f : State → Handle → Record → State) : State :=
  match s.findKey l st with
  | none => s.noteLine l lineKindUnknown
  | some h => match s.record? h with
    | none => s.noteLine l lineKindUnknown
    | some r => f s h r

/-! ### CAPABILITY -/

/-- CAPABILITY for the grant holder in phase OFFERED (R88). -/
def State.capabilityOffered (s : State) (h : Handle) (r : Record) (a : Attempt) (mask : StepSet) : State :=
  let p := s.profileOf r.profile
  let r1 := Record.takeMask p mask r
  match StepSet.highest (a.offer &&& mask) with
  | none => (s.putRecord h r1).abandonAndFail h r1 .noCommon
  | some k =>
    (s.putRecord h { r1 with
      attempt := some { a with phase := .ordered k }
      timer := s.startTimer (10 * p.confirmTimeout) }).sendDown r.line (.order r.station k)

/-- CAPABILITY for the grant holder in phase ORDERED (R92). -/
def State.capabilityOrdered (s : State) (h : Handle) (r : Record) (k : Step) (mask : StepSet) : State :=
  let r1 := Record.takeMask (s.profileOf r.profile) mask r
  let s1 := s.putRecord h r1
  if StepSet.has mask k then s1 else s1.abandonAndFail h r1 .protocol

/-- A remote-initiated CAPABILITY, by record state (R102). NEGOTIATING records take R88 and R92. -/
def State.capabilityRecord (s : State) (h : Handle) (r : Record) (mask : StepSet) : State :=
  let p := s.profileOf r.profile
  let r1 := Record.takeMask p mask r
  match r.state with
  | .negotiating => match r.attempt with
    | none => s
    | some a => match a.phase with
      | .offered => s.capabilityOffered h r a mask
      | .ordered k => s.capabilityOrdered h r k mask
  | .agreed => ((s.putRecord h r1).requeue h .remote).handOut r.line
  | .holdover =>
    ((s.putRecord h (Record.enter p .agreed { r1 with timer := none, carrier := .up })).requeue h .remote).handOut
      r.line
  | .waiting => s.putRecord h r1
  | .backoff => s.putRecord h r1
  | .failed => s.sendAbandon r
  | .retiring => s.sendAbandon r
  | .parked => s.sendAbandon r

/-- A refused line-born admission: ABANDON is handed and UNKNOWN is recorded (R19). -/
def State.refuseLineBorn (s : State) (l : LineId) (st : Station) : State :=
  (s.sendDown l (.abandon st)).noteLine l lineKindUnknown

/-- CAPABILITY from a station with no live record: line-born admission under the line's default profile, or refusal (R18, R19). -/
def State.lineBorn (s : State) (l : LineId) (st : Station) (mask : StepSet) : State :=
  if s.lines[l].mode = .closed then s.refuseLineBorn l st
  else match s.place l st s.lines[l].defaultProfile (some mask) .remote with
    | .overQuota => s.refuseLineBorn l st
    | .tableFull => s.setTableFull.refuseLineBorn l st
    | .placed _ s1 => s1.handOut l

/-- CAPABILITY after the line part of the frame (R70, R71). -/
def State.takeCapability (s : State) (l : LineId) (st : Station) (mask : StepSet) : State :=
  match s.findKey l st with
  | none => s.lineBorn l st mask
  | some h => match s.record? h with
    | none => s.lineBorn l st mask
    | some r => s.capabilityRecord h r mask

/-- CAPABILITY (R64, R70). -/
def execCapability (l : LineId) (st : Station) (mask : StepSet) (s : State) : Result :=
  .next (if s.hears l then (s.heardFrame l).takeCapability l st mask else s)

/-! ### OUTCOME and CONFIRM -/

/-- The failure reason an OUTCOME carries (R89). -/
def failReasonOf : OutcomeReason → FailReason
  | .refused => .refused
  | .noResponse => .noResponse

/-- The attempt of a NEGOTIATING record. -/
def Record.attempt? (r : Record) : Option Attempt := if r.state = .negotiating then r.attempt else none

/-- OUTCOME at a record: in phase OFFERED the attempt fails without ABANDON (R89), else it is stray (R72). -/
def State.takeOutcome (reason : OutcomeReason) (s : State) (h : Handle) (r : Record) : State :=
  match r.attempt? with
  | none => s.noteLine r.line lineKindStray
  | some a => match a.phase with
    | .offered => (s.failAttempt h (failReasonOf reason)).handOut r.line
    | .ordered _ => s.noteLine r.line lineKindStray

/-- OUTCOME (R64, R70, R89). -/
def execOutcome (l : LineId) (st : Station) (reason : OutcomeReason) (s : State) : Result :=
  .next (if s.hears l then (s.heardFrame l).toStation l st (State.takeOutcome reason) else s)

/-- CONFIRM at a record: in phase ORDERED the attempt succeeds or fails with PROTOCOL (R91), else it is stray (R72). -/
def State.takeConfirm (k : Step) (s : State) (h : Handle) (r : Record) : State :=
  match r.attempt? with
  | none => s.noteLine r.line lineKindStray
  | some a => match a.phase with
    | .offered => s.noteLine r.line lineKindStray
    | .ordered o => if o = k then s.succeed h r o else s.abandonAndFail h r .protocol

/-- CONFIRM (R64, R70, R91). -/
def execConfirm (l : LineId) (st : Station) (k : Step) (s : State) : Result :=
  .next (if s.hears l then (s.heardFrame l).toStation l st (State.takeConfirm k) else s)

/-! ### CARRIER -/

/-- CARRIER DOWN at a record (Table 7-1, R90, R110). -/
def State.carrierDown (s : State) (h : Handle) (r : Record) : State :=
  let p := s.profileOf r.profile
  let r1 := { r with carrier := .down }
  match r.state with
  | .agreed =>
    s.putRecord h (Record.enter p .holdover { r1 with timer := s.startTimer (10 * p.holdoverTime) })
  | .holdover => s
  | .negotiating => (s.putRecord h r1).abandonAndFail h r1 .noCarrier
  | .waiting => s.putRecord h r1
  | .backoff => s.putRecord h r1
  | .parked => s.putRecord h r1
  | .failed => s.putRecord h r1
  | .retiring => s.putRecord h r1

/-- CARRIER UP at a record (Table 7-1, R90, R112). -/
def State.carrierUp (s : State) (h : Handle) (r : Record) : State :=
  let r1 := { r with carrier := .up }
  match r.state with
  | .holdover => s.putRecord h (Record.enter (s.profileOf r.profile) .agreed { r1 with timer := none })
  | .agreed => s.putRecord h r1
  | .negotiating => s.putRecord h r1
  | .waiting => s.putRecord h r1
  | .backoff => s.putRecord h r1
  | .parked => s.putRecord h r1
  | .failed => s.putRecord h r1
  | .retiring => s.putRecord h r1

/-- CARRIER at a record (R109). -/
def State.takeCarrier (report : CarrierReport) (s : State) (h : Handle) (r : Record) : State :=
  match report with
  | .up => s.carrierUp h r
  | .down => s.carrierDown h r

/-- CARRIER (R64, R70, R109). -/
def execCarrier (l : LineId) (st : Station) (report : CarrierReport) (s : State) : Result :=
  .next (if s.hears l then (s.heardFrame l).toStation l st (State.takeCarrier report) else s)

/-! ### QUALITY -/

/-- The states in which a record takes samples (R48). -/
def RecState.takesSamples : RecState → Bool
  | .agreed => true
  | .holdover => true
  | .negotiating => true
  | .waiting => true
  | .backoff => true
  | .parked => false
  | .failed => false
  | .retiring => false

/-- The first sample (R49). -/
def Record.firstSample (p : Profile) (ladder : Ladder) (v : BitVec 8) (r : Record) : Record :=
  Record.note p kindCeiling { r with
    quality := some { value := v, ceiling := ladder.riseCeiling v }, riseCount := 0, fallCount := 0 }

/-- A later sample, judged for a rise and a fall against the ceiling held before it (R50, R51); a changed ceiling records
CEILING, and a fall clears forward blocked (R52). -/
def Record.laterSample (p : Profile) (ladder : Ladder) (v : BitVec 8) (q : Quality) (r : Record) : Record :=
  let rise := if ladder.rises q.ceiling v then r.riseCount + 1 else 0
  let fall := if ladder.falls q.ceiling v then r.fallCount + 1 else 0
  let raised := ladder.rises q.ceiling v && decide (p.riseSamples ≤ rise)
  let lowered := ladder.falls q.ceiling v && decide (p.fallSamples ≤ fall)
  let ceiling :=
    if raised then ladder.riseCeiling v
    else if lowered then ladder.fallCeiling v
    else q.ceiling
  let r1 := { r with
    quality := some { value := v, ceiling := ceiling }
    riseCount := if raised then 0 else rise
    fallCount := if lowered then 0 else fall
    forwardBlocked := r.forwardBlocked && !lowered }
  if ceiling = q.ceiling then r1 else Record.note p kindCeiling r1

/-- The record after a sample (R49 to R52). -/
def Record.sample (p : Profile) (ladder : Ladder) (v : BitVec 8) (r : Record) : Record :=
  match r.quality with
  | none => Record.firstSample p ladder v r
  | some q => Record.laterSample p ladder v q r

/-- Condition 3 of R55: the offer now holds a step above the agreed step that the remote mask holds. -/
def State.canMoveForward (s : State) (r : Record) (k : Step) : Bool :=
  let offer := computeOffer (s.profileOf r.profile) r.capOverride s.lines[r.line].ceiling r.quality
  (List.finRange 12).any fun j =>
    StepSet.has offer j && decide (k < j) && (r.remoteMask.any fun m => StepSet.has m j)

/-- The ceiling did not fall: the sample is the first (R49), or the ceiling it left is above the one held before. -/
def ceilingRose (before after : Option Quality) : Bool := match before, after with
  | some q, some q1 => decide (stepCode q.ceiling < stepCode q1.ceiling)
  | none, _ => true
  | some _, none => false

/-- The reaction to a changed ceiling (R54 to R57) of a record `r` as the sample left it; `before` is what it held before. A fall
that stays at or above the agreed step leaves an AGREED record in AGREED (R55). -/
def State.ceilingReact (s : State) (h : Handle) (before : Option Quality) (r : Record) : State :=
  match r.quality, r.agreed with
  | some q, some k => match r.state with
    | .agreed =>
      if stepCode q.ceiling < Step.number k then s.requeue h .qualityDown
      else if ceilingRose before r.quality ∧ Step.number k < stepCode q.ceiling ∧ (s.profileOf r.profile).forwardEn ∧ !r.forwardBlocked ∧
          s.canMoveForward r k ∧ s.lineIsUp r.line then s.requeue h .qualityUp
      else s
    | .waiting =>
      if stepCode q.ceiling < Step.number k ∧ s.arbiters[r.line].normal.contains h then s.classMove h .qualityDown
      else s
    | .holdover => s
    | .negotiating => s
    | .backoff => s
    | .parked => s
    | .failed => s
    | .retiring => s
  | _, _ => s

/-- QUALITY at a record (R48): the sample, the reaction to a ceiling it changed, the hand-out. -/
def State.takeQuality (v : BitVec 8) (s : State) (h : Handle) (r : Record) : State :=
  if !r.state.takesSamples then s
  else
    let p := s.profileOf r.profile
    let r1 := Record.sample p s.ladders[p.ladder] v r
    let s1 := s.putRecord h r1
    if r.quality.map Quality.ceiling = r1.quality.map Quality.ceiling then s1
    else (s1.ceilingReact h r.quality r1).handOut r.line

/-- QUALITY (R64, R70, R48). -/
def execQuality (l : LineId) (st : Station) (v : BitVec 8) (s : State) : Result :=
  .next (if s.hears l then (s.heardFrame l).toStation l st (State.takeQuality v) else s)

/-! ### The transmit lane and the silence timer -/

/-- The frame at the head of the queue begins its transmission at its first bit time (R74, R171). -/
def Line.beginFrame (ln : Line) : Line := match ln.txQueue with
  | [] => { ln with sending := none, txSent := 0 }
  | f :: rest => { ln with sending := some f, txSent := 0, txQueue := rest }

/-- FRAME_TRANSMISSION (R74): the link begins the frame at the head, when it is not sending and one is queued. -/
def execFrameTransmission (l : LineId) (s : State) : Result :=
  .next (if s.running && s.lines[l].sending.isNone then s.modLine l Line.beginFrame else s)

/-- FRAME_TRANSMISSION_COMPLETE (R74): the lane stops sending, or sends the next queued frame (log 9). -/
def execFrameTransmissionComplete (l : LineId) (s : State) : Result :=
  .next (if s.running && s.lines[l].sending.isSome then s.modLine l Line.beginFrame else s)

/-- SILENCE_EXPIRY (R65). It does not occur while the timer is stopped (log 4), nor before the accuracy of R10 lets it: a frame
taken first restarts the timer, and the expiry does not occur. Where Table 7-7 (row 2) and Table 7-3 (rows 2 and 3) let "the
expiry" follow such a frame, the model takes R65: the expiry that follows is the next one, of the restarted timer
(DESIGN CHOICE, log 20). -/
def execSilenceExpiry (l : LineId) (s : State) : Result :=
  .next (match s.lines[l].silence with
    | none => s
    | some t => if s.running && s.mayExpire t then s.loseLine l else s)

end Sys2Proof.Machine
end

