-- ==== Sys2Proof/Machine/Lookup.lean ====
section
/-! DEFINITION. The lookup port (R135 to R144, R123, R124). -/

namespace Sys2Proof.Machine

/-- The record content of an answer, the fields of R144 and Table 13-5. The last row of R58 has an answer after a sample show the
ceiling and the unchanged generation; R144 gives an answer no ceiling, and R54 steps the generation where it parks the record. The
model follows R144 and R54 (DESIGN CHOICE, log 22). -/
def contentOf (h : Handle) (e : Epoch) (r : Record) : AnswerContent :=
  { handle := h, epoch := e, state := r.state, agreed := r.agreed, generation := r.generation, holds := r.holds }

/-- What a query obtains when it is applied to the table (R136 item 1). -/
structure Applied where
  state : State
  status : AnswerStatus
  content : Option AnswerContent
deriving DecidableEq, Repr

/-- The discard of a query that arrives while the port is BUSY (R138). -/
def State.discardQuery (s : State) : State :=
  let s1 := s.setLookupOverrun
  { s1 with lookup := { s1.lookup with pendingOverrun := true } }

/-- A query arrives: an IDLE port takes it, applies it and composes its answer (R136, R139); a BUSY port
discards it (R138). Bytes before the receiver's first idle are not taken (R169). -/
def State.query (s : State) (tag : Tag) (apply : State → Applied) : State :=
  if !s.running || s.lookup.rxWaitsIdle then s
  else if s.lookup.answer.isSome then s.discardQuery
  else
    let a := apply s
    { a.state with lookup := { a.state.lookup with
        answer := some { status := a.status, tag := tag, overrun := s.lookup.pendingOverrun, content := a.content }
        pendingOverrun := false } }

/-- FIND (R141), with test 3 of R140 for its line. -/
def State.applyFind (line : BitVec 4) (st : Station) (s : State) : Applied :=
  if hl : line.toNat < 8 then
    match s.findKey ⟨line.toNat, hl⟩ st with
    | none => { state := s, status := .notFound, content := none }
    | some h => match s.record? h with
      | none => { state := s, status := .notFound, content := none }
      | some r => { state := s, status := .ok, content := some (contentOf h s.slots[h].epoch r) }
  else { state := s, status := .badQuery, content := none }

/-- A query that names a record: test 3 of R140 for its handle, then resolution (R3). -/
def State.applyNamed (handle : BitVec 9) (e : Epoch) (s : State)
    (f : Handle → Record → Applied) : Applied :=
  if hh : handle.toNat < 256 then
    match s.named? ⟨handle.toNat, hh⟩ e with
    | none => { state := s, status := .stale, content := none }
    | some r => f ⟨handle.toNat, hh⟩ r
  else { state := s, status := .badQuery, content := none }

/-- PEEK at a record (R142). -/
def State.peekRecord (s : State) (e : Epoch) (h : Handle) (r : Record) : Applied :=
  { state := s, status := .ok, content := some (contentOf h e r) }

/-- HOLD at a record (R123). -/
def State.holdRecord (s : State) (e : Epoch) (h : Handle) (r : Record) : Applied :=
  if r.state = .retiring then { state := s, status := .retiring, content := some (contentOf h e r) }
  else if r.holds = Config.holdLimit then { state := s, status := .holdFull, content := some (contentOf h e r) }
  else
    let r1 := { r with holds := r.holds + 1 }
    { state := s.putRecord h r1, status := .ok, content := some (contentOf h e r1) }

/-- RELEASE at a record (R124): a RETIRING record whose count becomes 0 leaves the table. -/
def State.releaseRecord (s : State) (e : Epoch) (h : Handle) (r : Record) : Applied :=
  if r.holds = 0 then { state := s, status := .notHeld, content := some (contentOf h e r) }
  else
    let r1 := { r with holds := r.holds - 1 }
    let s1 := s.putRecord h r1
    { state := if r.state = .retiring ∧ r1.holds = 0 then s1.leaveTable h else s1
      status := .ok
      content := some (contentOf h e r1) }

/-- LOOKUP_FIND (R136, R141). -/
def execLookupFind (tag : Tag) (line : BitVec 4) (st : Station) (s : State) : Result :=
  .next (s.query tag (State.applyFind line st))

/-- PEEK (R136, R142). -/
def execPeek (tag : Tag) (handle : BitVec 9) (e : Epoch) (s : State) : Result :=
  .next (s.query tag fun s => s.applyNamed handle e (s.peekRecord e))

/-- HOLD (R136, R123). -/
def execHold (tag : Tag) (handle : BitVec 9) (e : Epoch) (s : State) : Result :=
  .next (s.query tag fun s => s.applyNamed handle e (s.holdRecord e))

/-- RELEASE (R136, R124). -/
def execRelease (tag : Tag) (handle : BitVec 9) (e : Epoch) (s : State) : Result :=
  .next (s.query tag fun s => s.applyNamed handle e (s.releaseRecord e))

/-- BAD_QUERY (R136, R140). -/
def execBadQuery (tag : Tag) (s : State) : Result :=
  .next (s.query tag fun s => { state := s, status := .badQuery, content := none })

/-- QUERY_DISCARD (R138). It does not occur while the port is IDLE (log 4). -/
def execQueryDiscard (s : State) : Result :=
  .next (if s.running && s.lookup.answer.isSome then s.discardQuery else s)

/-- ANSWER_SENT (R137). It does not occur while the port is IDLE (log 4). -/
def execAnswerSent (s : State) : Result :=
  .next (if s.running then { s with lookup := { s.lookup with answer := none, txSent := 0 } } else s)

end Sys2Proof.Machine
end

