-- ==== Sys2Proof/Machine/Power.lean ====
section
/-! DEFINITION. Power-on, RESETn and the first idle of each receiver (R169). -/

namespace Sys2Proof.Machine

/-- Every block at its power-on and RESETn values (R27, R43, R59, R80, R108, R135, R155, R168), with the SPI transaction in
progress ended. The pins, the time base and the queue of commands are not blocks' values and stay (log 6). -/
def State.blocksReset (s : State) : State :=
  { State.reset with
    poweringOn := s.poweringOn, resetLow := s.resetLow, now := s.now, spi := s.spi.cut,
    pending := s.pending }

/-- POWER_ON (R169): the blocks take and hold their values until power-on ends. -/
def execPowerOn (s : State) : Result := .next { s.blocksReset with poweringOn := true }

/-- POWER_ON_END (R169): the blocks begin to take events unless RESETn is held low. -/
def execPowerOnEnd (s : State) : Result := .next { s with poweringOn := false }

/-- RESETN (R169): the blocks take and hold their values while RESETn is low. -/
def execResetn (s : State) : Result := .next { s.blocksReset with resetLow := true }

/-- RESETN_RELEASE (R169): the blocks begin to take events unless the part is still in power-on. -/
def execResetnRelease (s : State) : Result := .next { s with resetLow := false }

/-- IDLE_OF_TWO_BYTE_TIMES (R169): the receiver takes its next byte as the start of a frame or query. -/
def execIdleOfTwoByteTimes (rx : Receiver) (s : State) : Result :=
  .next (if !s.running then s
    else match rx with
      | .report l => s.modLine l fun ln => { ln with rxWaitsIdle := false }
      | .lookup => { s with lookup := { s.lookup with rxWaitsIdle := false } })

end Sys2Proof.Machine
end

