-- ==== Sys2Proof/Machine/Sweep.lean ====
section
/-! DEFINITION. The commit sweep: SWEEP_VISIT and COMMIT_SWEEP_END (R37 to R40). -/

namespace Sys2Proof.Machine

/-- The visit of a record bound to the committed profile, by its state (Table 3-3), with the counts it moves (R37). -/
def State.visitRecord (s : State) (h : Handle) (r : Record) (w : Sweep) : State :=
  let moved := r.agreed.any (nonCompliant (s.profileOf r.profile))
  let w1 := { w with visited := w.visited + 1 }
  let move : State :=
    if moved then
      let w2 := if s.lineIsUp r.line then { w1 with requeued := w.requeued + 1 }
        else { w1 with parked := w.parked + 1 }
      (({ s with sweep := some w2 } : State).requeue h .profile).handOut r.line
    else { s with sweep := some w1 }
  match r.state with
  | .agreed => move
  | .holdover => move
  | .negotiating =>
    ({ s with sweep := some { w1 with rerun := w.rerun + 1 } } : State).putRecord h
      { r with attempt := r.attempt.map fun a => { a with rerun := true } }
  | .waiting => { s with sweep := some w1 }
  | .backoff => { s with sweep := some w1 }
  | .parked => { s with sweep := some w1 }
  | .failed => { s with sweep := some w1 }
  | .retiring => { s with sweep := some w1 }

/-- The sweep examines the slot at its cursor (R37, R39). Without a sweep, or past handle 255, nothing is examined. -/
def State.sweepVisit (s : State) : State := match s.sweep with
  | none => s
  | some w =>
    if hc : w.cursor < 256 then
      let h : Handle := ⟨w.cursor, hc⟩
      let w1 := { w with cursor := w.cursor + 1 }
      match s.record? h with
      | none => { s with sweep := some w1 }
      | some r => if r.profile = w.profile then s.visitRecord h r w1 else { s with sweep := some w1 }
    else s

/-- The sweep ends after handle 255 has been examined, and PROFILE_COMMIT completes with its four counts (R37, R164). -/
def State.sweepEnd (s : State) : State := match s.sweep with
  | none => s
  | some w =>
    if w.cursor < 256 then s
    else
      ({ s with sweep := none } : State).complete .ok
        [wordOf w.visited, wordOf w.requeued, wordOf w.parked, wordOf w.rerun]

/-- SWEEP_VISIT (R37, R39). -/
def execSweepVisit (s : State) : Result := .next (if s.running then s.sweepVisit else s)

/-- COMMIT_SWEEP_END (R37). -/
def execCommitSweepEnd (s : State) : Result := .next (if s.running then s.sweepEnd else s)

end Sys2Proof.Machine
end

