-- ==== Sys2Proof/Machine/Dispatch.lean ====
section
/-! DEFINITION. One arm per command, each one call of its meaning. -/

namespace Sys2Proof.Machine

def exec (i : Instr) (s : State) : Host.Outcome State Fault Refusal :=
  match i with
  | .powerOn => Sys2Proof.Machine.execPowerOn s
  | .powerOnEnd => Sys2Proof.Machine.execPowerOnEnd s
  | .resetn => Sys2Proof.Machine.execResetn s
  | .resetnRelease => Sys2Proof.Machine.execResetnRelease s
  | .admitRecord line station profile => Sys2Proof.Machine.execAdmit line station profile s
  | .find line station => Sys2Proof.Machine.execFind line station s
  | .read handle => Sys2Proof.Machine.execRead handle s
  | .rebind handle epoch profile => Sys2Proof.Machine.execRebind handle epoch profile s
  | .cap handle epoch step => Sys2Proof.Machine.execCap handle epoch step s
  | .renegotiate handle epoch => Sys2Proof.Machine.execRenegotiate handle epoch s
  | .retire handle epoch grace => Sys2Proof.Machine.execRetire handle epoch grace s
  | .nextChange start => Sys2Proof.Machine.execNextChange start s
  | .ackChange handle epoch kinds => Sys2Proof.Machine.execAckChange handle epoch kinds s
  | .profileStage field value => Sys2Proof.Machine.execProfileStage field value s
  | .profileLoad profile => Sys2Proof.Machine.execProfileLoad profile s
  | .profileCommit profile => Sys2Proof.Machine.execProfileCommit profile s
  | .profileRead profile field => Sys2Proof.Machine.execProfileRead profile field s
  | .ladderWrite ladder step rise fall => Sys2Proof.Machine.execLadderWrite ladder step rise fall s
  | .ladderRead ladder step => Sys2Proof.Machine.execLadderRead ladder step s
  | .lineConfig line quota mode profile keepalive => Sys2Proof.Machine.execLineConfig line quota mode profile keepalive s
  | .lineRead line => Sys2Proof.Machine.execLineRead line s
  | .lineReset line => Sys2Proof.Machine.execLineReset line s
  | .lineAck line kinds => Sys2Proof.Machine.execLineAck line kinds s
  | .clearTable => Sys2Proof.Machine.execClearTable s
  | .ident => Sys2Proof.Machine.execIdent s
  | .unknownCommand code => Sys2Proof.Machine.execUnknownCommand code s
  | .goWhileBusy => Sys2Proof.Machine.execGoWhileBusy s
  | .mailboxWrite word value => Sys2Proof.Machine.execMailboxWrite word value s
  | .flagsWrite value => Sys2Proof.Machine.execFlagsWrite value s
  | .enablesWrite value => Sys2Proof.Machine.execEnablesWrite value s
  | .portStatusWrite value => Sys2Proof.Machine.execPortStatusWrite value s
  | .registerWrite address value => Sys2Proof.Machine.execRegisterWrite address value s
  | .sweepVisit => Sys2Proof.Machine.execSweepVisit s
  | .commitSweepEnd => Sys2Proof.Machine.execCommitSweepEnd s
  | .lineUp line ceiling => Sys2Proof.Machine.execLineUp line ceiling s
  | .lineDown line => Sys2Proof.Machine.execLineDown line s
  | .alive line => Sys2Proof.Machine.execAlive line s
  | .capability line station mask => Sys2Proof.Machine.execCapability line station mask s
  | .outcome line station reason => Sys2Proof.Machine.execOutcome line station reason s
  | .confirm line station step => Sys2Proof.Machine.execConfirm line station step s
  | .carrier line station report => Sys2Proof.Machine.execCarrier line station report s
  | .quality line station value => Sys2Proof.Machine.execQuality line station value s
  | .malformedFrame line => Sys2Proof.Machine.execMalformedFrame line s
  | .frameTransmission line => Sys2Proof.Machine.execFrameTransmission line s
  | .silenceExpiry line => Sys2Proof.Machine.execSilenceExpiry line s
  | .negotiationTimerExpiry handle => Sys2Proof.Machine.execNegotiationTimerExpiry handle s
  | .confirmTimerExpiry handle => Sys2Proof.Machine.execConfirmTimerExpiry handle s
  | .holdoverExpiry handle => Sys2Proof.Machine.execHoldoverExpiry handle s
  | .backoffExpiry handle => Sys2Proof.Machine.execBackoffExpiry handle s
  | .graceExpiry handle => Sys2Proof.Machine.execGraceExpiry handle s
  | .lookupFind tag line station => Sys2Proof.Machine.execLookupFind tag line station s
  | .peek tag handle epoch => Sys2Proof.Machine.execPeek tag handle epoch s
  | .hold tag handle epoch => Sys2Proof.Machine.execHold tag handle epoch s
  | .release tag handle epoch => Sys2Proof.Machine.execRelease tag handle epoch s
  | .badQuery tag => Sys2Proof.Machine.execBadQuery tag s
  | .queryDiscard => Sys2Proof.Machine.execQueryDiscard s
  | .answerSent => Sys2Proof.Machine.execAnswerSent s
  | .frameTransmissionComplete line => Sys2Proof.Machine.execFrameTransmissionComplete line s
  | .idleOfTwoByteTimes receiver => Sys2Proof.Machine.execIdleOfTwoByteTimes receiver s

end Sys2Proof.Machine
end

