-- ==== Sys2Proof/Machine/Idle.lean ====
section
/-! DEFINITION. What the part does of its own accord when no command waits (log 2, log 3). -/

namespace Sys2Proof.Machine

/-- The expiry of a record's running timer, by its kind (R9). -/
def expiryOf (h : Handle) (r : Record) : Option Instr := match r.state with
  | .negotiating => match r.attempt with
    | some a => if a.phase = .offered then some (.negotiationTimerExpiry h) else some (.confirmTimerExpiry h)
    | none => none
  | .holdover => some (.holdoverExpiry h)
  | .backoff => some (.backoffExpiry h)
  | .retiring => some (.graceExpiry h)
  | .agreed => none
  | .waiting => none
  | .parked => none
  | .failed => none

/-- A timer has reached the last moment at which it can expire (R10). -/
def State.isDue (s : State) (t : Option Timer) : Bool := t.any fun t => decide (t.latest ≤ s.now)

/-- The expiry that a slot owes. -/
def State.dueExpiry (s : State) (h : Handle) : Option Instr := match s.record? h with
  | some r => if s.isDue r.timer then expiryOf h r else none
  | none => none

/-- The expiry that a slot owes because its timer was started with a duration of zero (R9). -/
def State.zeroExpiry (s : State) (h : Handle) : Option Instr := match s.record? h with
  | some r => if r.timer.any fun t => decide (t.duration = 0) then expiryOf h r else none
  | none => none

/-- The event the part itself owes next, if any. A timer of zero duration expires as soon as the event that started it is complete
(R9), so it comes first. Then an answer or a frame in transmission ends, a queued frame begins, a sweep goes on, another due
timer expires: the first three take microseconds (R171, R172) and a sweep at most 2 ms (R37). -/
def State.nextInternal (s : State) : Option Instr :=
  if !s.running then none
  else match (List.finRange 256).findSome? s.zeroExpiry with
    | some c => some c
    | none => if s.lookup.answer.isSome then some .answerSent
      else match (List.finRange 8).find? fun l => s.lines[l].sending.isSome with
        | some l => some (.frameTransmissionComplete l)
        | none => match (List.finRange 8).find? fun l => !s.lines[l].txQueue.isEmpty with
          | some l => some (.frameTransmission l)
          | none => match s.sweep with
            | some w => if w.cursor < 256 then some .sweepVisit else some .commitSweepEnd
            | none => match (List.finRange 256).findSome? s.dueExpiry with
              | some c => some c
              | none => ((List.finRange 8).find? fun l => s.isDue s.lines[l].silence).map .silenceExpiry

/-- One millisecond of the time base passes. -/
def State.tick (s : State) : State := { s with now := s.now + 1 }

end Sys2Proof.Machine
end

