-- ==== Sys2Proof/Machine/Pins.lean ====
section
/-! DEFINITION. What the lanes and the SPI pins carry below the commands: bit times cut into bytes (R171, R172), bytes and idles cut
into frames and queries (R62, R136, R169), and SCK cycles cut into the words of a transaction (R157, R169, R173). Each is an
operation on State that its sender applies at the moment of the event; where it completes a frame, a query, a word, an idle or a
transmission, it runs the command that this is (log 7). -/

namespace Sys2Proof.Machine

/-! ### A lane in bit times (R171, R172) -/

/-- Bit times of two byte times (R171). -/
def idleBits : Nat := 20

/-- What one bit time makes of the byte under way on a receive lane: its data bits after it, and the byte it completes. A low level
between bytes is a start bit. The bit after the eighth data bit is the stop bit; found low, it completes the byte all the same
(R171). A receiver that waits for its first idle tells no byte apart (R169). -/
def rxBit (waits : Bool) (data : Option (List Bool)) (level : Bool) : Option (List Bool) × Option Byte :=
  if waits then (none, none)
  else match data with
    | none => if level then (none, none) else (some [], none)
    | some bits => if bits.length < 8 then (some (bits ++ [level]), none) else (none, some (byteOfBits bits))

/-- The level that a lane drives after so many bit times of some bytes sent without gaps; past them it idles high (R171, R172). -/
def txLevel (bytes : List Byte) (sent : Nat) : Bool := (laneLevels bytes).getD sent true

/-! ### The report links (R62, R169, R171) -/

/-- Bytes of a frame or query (R62, R172). -/
def frameLength : Nat := 5

/-- A byte arrives on a report link (R62). The byte that follows an idle or a complete frame begins a frame, which is taken at its
fifth byte. Bytes before the first idle after a reset, and bytes while the part is held, are not taken (R169). -/
def State.reportByte (s : State) (l : LineId) (b : Byte) : Result :=
  let got := s.lines[l].rxBytes ++ [b]
  if !s.hears l then .next s
  else if got.length < frameLength then .next (s.modLine l fun ln => { ln with rxBytes := got })
  else exec (classifyFrame l got) (s.modLine l fun ln => { ln with rxBytes := [] })

/-- A report link has been idle for two byte times: the receiver's first idle after a reset (R169); otherwise the bytes of a frame
under way are a short frame, which is taken now, when the idle has lasted (R62). -/
def State.reportIdle (s : State) (l : LineId) : Result :=
  if !s.hears l then exec (.idleOfTwoByteTimes (.report l)) s
  else match s.lines[l].rxBytes with
    | [] => .next s
    | got => exec (classifyFrame l got) (s.modLine l fun ln => { ln with rxBytes := [] })

/-- One bit time with a level on a report link's receive lane (R171). It may complete a byte, or two byte times of idle. Before the
first idle after a reset no byte is told apart, and every high level counts toward that idle (R169; log 21). -/
def State.reportLevel (s : State) (l : LineId) (level : Bool) : Result :=
  let ln := s.lines[l]
  let rx := rxBit ln.rxWaitsIdle ln.rxBits level
  let high := if level && rx.1.isNone && rx.2.isNone then min (ln.rxHigh + 1) idleBits else 0
  let s1 := s.modLine l fun ln => { ln with rxBits := rx.1, rxHigh := high }
  if !s.running then .next s
  else match rx.2 with
    | some b => s1.reportByte l b
    | none => if ln.rxHigh < idleBits ∧ high = idleBits then s1.reportIdle l else .next s1

/-- The level on a report link's transmit lane: the frame in transmission, else high (R74, R169, R171). -/
def State.reportTx (s : State) (l : LineId) : Bool := match s.lines[l].sending with
  | none => true
  | some f => !s.running || txLevel f.bytes s.lines[l].txSent

/-- One bit time of a report link's transmit lane ends: a queued frame begins on an idle lane, and the last bit time of a frame
completes it (R74, R171). -/
def State.reportTxNext (s : State) (l : LineId) : Result := match s.lines[l].sending with
  | none => exec (.frameTransmission l) s
  | some f =>
    if !s.running then .next s
    else if s.lines[l].txSent + 1 < (laneLevels f.bytes).length then
      .next (s.modLine l fun ln => { ln with txSent := ln.txSent + 1 })
    else exec (.frameTransmissionComplete l) s

/-! ### The lookup link (R136, R169, R172) -/

/-- The lookup link's receiver has found its first idle after a reset, and the part takes events (R169). -/
def State.hearsLookup (s : State) : Bool := s.running && !s.lookup.rxWaitsIdle

/-- A byte arrives on the lookup link (R136): a query arrives at its fifth byte. -/
def State.lookupByte (s : State) (b : Byte) : Result :=
  let got := s.lookup.rxBytes ++ [b]
  if !s.hearsLookup then .next s
  else if got.length < frameLength then .next { s with lookup := { s.lookup with rxBytes := got } }
  else exec (classifyQuery got) { s with lookup := { s.lookup with rxBytes := [] } }

/-- An idle of two byte times begins on the lookup link. Unlike a short frame, a short query arrives at the START of the idle that
ends it (R136), so this is the moment at which the sender applies it: a port that is BUSY then discards the query (R138), though
its answer may end before the idle has lasted. It is also the receiver's first idle after a reset (R169). -/
def State.lookupIdleBegins (s : State) : Result :=
  if !s.hearsLookup then exec (.idleOfTwoByteTimes .lookup) s
  else match s.lookup.rxBytes with
    | [] => .next s
    | got => exec (classifyQuery got) { s with lookup := { s.lookup with rxBytes := [] } }

/-- With these levels, one for each bit time, a lane begins an idle of two byte times (R62, R171). -/
def idleBegins (levels : List Bool) : Bool := levels.take idleBits == List.replicate idleBits true

/-- One bit time with a level on the lookup link's receive lane (R172); `ahead` is what the lane carries in the bit times after it,
and tells whether an idle of two byte times begins here (R136). -/
def State.lookupLevel (s : State) (level : Bool) (ahead : List Bool) : Result :=
  let rx := rxBit s.lookup.rxWaitsIdle s.lookup.rxBits level
  let s1 := { s with lookup := { s.lookup with rxBits := rx.1 } }
  if !s.running then .next s
  else if s.lookup.rxBits.isNone && idleBegins (level :: ahead) then s.lookupIdleBegins
  else match rx.2 with
    | some b => s1.lookupByte b
    | none => .next s1

/-- The level on the lookup link's transmit lane: the answer in hand, else high (R136, R137, R169, R172). -/
def State.lookupTx (s : State) : Bool := match s.lookup.answer with
  | none => true
  | some a => !s.running || txLevel a.bytes s.lookup.txSent

/-- One bit time of the lookup link's transmit lane ends; the last bit time of an answer ends the answer (R137, R172). -/
def State.lookupTxNext (s : State) : Result := match s.lookup.answer with
  | none => .next s
  | some a =>
    if !s.running then .next s
    else if s.lookup.txSent + 1 < (laneLevels a.bytes).length then
      .next { s with lookup := { s.lookup with txSent := s.lookup.txSent + 1 } }
    else exec .answerSent s

/-! ### The SPI port (R157, R169, R173) -/

/-- CSn falls: a transaction begins with its header, or is not taken while the part is held (R169, R173). -/
def State.spiSelect (s : State) : State := match s.spi with
  | .idle => { s with spi := if s.running then .header [] else .skipped }
  | _ => s

/-- CSn rises: the transaction ends, and an incomplete word is neither written nor counted (R157, R173). -/
def State.spiDeselect (s : State) : State := { s with spi := .idle }

/-- The level the part drives on MISO in the next SCK cycle; none is high impedance. In a read it is the next bit of the word as
taken at its first bit; in the header, in a write and in a transaction that is not taken it is low (R157, R169, R173). -/
def State.spiMiso (s : State) : Option Bool := match s.spi with
  | .idle => none
  | .skipped => some false
  | .header _ => some false
  | .writing _ _ => some false
  | .reading address word sent => some ((if sent = 0 then s.readWord address else word).getMsbD sent)

/-- One SCK cycle with a level on MOSI. The sixteenth bit completes the header, or a data word, which a write takes as a write of
the window (R157); the address counter steps after each data word (R173). -/
def State.spiClock (s : State) (mosi : Bool) : Result := match s.spi with
  | .idle => .next s
  | .skipped => .next s
  | .header bits =>
    let got := bits ++ [mosi]
    if got.length < 16 then .next { s with spi := .header got }
    else
      let (read, first) := spiHeader (wordOfBits got)
      .next { s with spi := if read then .reading first 0 0 else .writing first [] }
  | .writing address bits =>
    let got := bits ++ [mosi]
    if got.length < 16 then .next { s with spi := .writing address got }
    else exec (.registerWrite address (wordOfBits got)) { s with spi := .writing (spiNext address) [] }
  | .reading address word sent =>
    .next { s with spi :=
      if sent + 1 < 16 then .reading address (if sent = 0 then s.readWord address else word) (sent + 1)
      else .reading (spiNext address) 0 0 }

end Sys2Proof.Machine
end

