-- ==== Sys2Proof/WellFormed.lean ====
section
/-! DEFINITION. When a command is the row it is named after. The operand types already hold every other range. -/

namespace Sys2Proof

/-- The twenty-one command codes (Table 13-7). -/
def commandCodes : List Word :=
  [0x01, 0x02, 0x03, 0x04, 0x05, 0x06, 0x07, 0x08, 0x09, 0x10, 0x11, 0x12, 0x13,
   0x18, 0x19, 0x20, 0x21, 0x22, 0x23, 0x30, 0x3F]

/-- A write that R156 and R160 ignore: to a read-only word (ID_PART, ID_REV, CAUSE, RES0 to RES7),
to an unassigned address, or to CTRL with GO zero. -/
def ignoredWrite (address : BitVec 5) (value : Word) : Bool :=
  let a := address.toNat
  a == 0x00 || a == 0x01 || a == 0x06 || decide (0x0E ≤ a) || (a == 0x02 && !value.getLsbD 15)

/-- Every check an ill-formed command fails:
UNKNOWN_COMMAND carries no command code (R163); REGISTER_WRITE is an ignored write (R156);
LOOKUP_FIND, PEEK, HOLD and RELEASE pass test 3 of R140. -/
def Instr.wellFormed : Instr → Bool
  | .unknownCommand code => !commandCodes.contains code
  | .registerWrite address value => ignoredWrite address value
  | .lookupFind _ line _ => decide (line.toNat < 8)
  | .peek _ handle _ => decide (handle.toNat < 256)
  | .hold _ handle _ => decide (handle.toNat < 256)
  | .release _ handle _ => decide (handle.toNat < 256)
  | _ => true

end Sys2Proof
end

