-- ==== Sys2Proof/Safety.lean ====
section
/-! DEFINITION. The invariants of the part: what the rules say of every state between two events, and the words the statements use. -/

namespace Sys2Proof.Machine

/-! ### One record -/

/-- The attempt fields are present exactly in NEGOTIATING (R6). -/
abbrev Record.AttemptOk (r : Record) : Prop := r.attempt.isSome = true ↔ r.state = .negotiating

/-- The cause is present in WAITING, NEGOTIATING, BACKOFF, FAILED and PARKED, and absent in AGREED, HOLDOVER and RETIRING (R6). -/
abbrev Record.CauseOk (r : Record) : Prop :=
  r.cause = none ↔ r.state = .agreed ∨ r.state = .holdover ∨ r.state = .retiring

/-- AGREED and HOLDOVER have an agreed step; PARKED, BACKOFF, FAILED and RETIRING have none (R7). -/
abbrev Record.AgreedOk (r : Record) : Prop :=
  (r.state = .agreed ∨ r.state = .holdover → r.agreed.isSome = true) ∧
  (r.state = .parked ∨ r.state = .backoff ∨ r.state = .failed ∨ r.state = .retiring → r.agreed = none)

/-- An agreed step is a member of the remote mask (R7). -/
abbrev Record.StepInMask (r : Record) : Prop :=
  ∀ k : Step, r.agreed = some k → (r.remoteMask.any fun m => StepSet.has m k) = true

/-- An ordered step is a member of the offer and of the remote mask (R88, R92). -/
abbrev Record.OrderedOk (r : Record) : Prop :=
  ∀ k : Step, r.orderedStep = some k →
    StepSet.has r.offerBits k = true ∧ (r.remoteMask.any fun m => StepSet.has m k) = true

/-- The timer runs in NEGOTIATING, HOLDOVER and BACKOFF, may run in RETIRING, and is stopped in every other state (R9). -/
abbrev Record.TimerOk (r : Record) : Prop :=
  (r.state = .negotiating ∨ r.state = .holdover ∨ r.state = .backoff → r.timer.isSome = true) ∧
  (r.state = .parked ∨ r.state = .waiting ∨ r.state = .agreed ∨ r.state = .failed → r.timer = none)

/-- An AGREED record has carrier UP (R111); a HOLDOVER record has carrier DOWN (R109). -/
abbrev Record.CarrierOk (r : Record) : Prop :=
  (r.state = .agreed → r.carrier = .up) ∧ (r.state = .holdover → r.carrier = .down)

/-- The hold count is at most 15, and at least 1 in RETIRING (R122). -/
abbrev Record.HoldsOk (r : Record) : Prop :=
  r.holds ≤ Config.holdLimit ∧ (r.state = .retiring → 1 ≤ r.holds)

/-- The attempts count is at most 8 (R98). -/
abbrev Record.AttemptsOk (r : Record) : Prop := r.attempts ≤ 8

/-- At most one of the rise and fall counts is nonzero, and both are at most 15 (R51, R174). -/
abbrev Record.QualityCountsOk (r : Record) : Prop :=
  (r.riseCount = 0 ∨ r.fallCount = 0) ∧ r.riseCount ≤ 15 ∧ r.fallCount ≤ 15

/-- What every live record meets. -/
abbrev State.EveryRecord (s : State) (P : Record → Prop) : Prop :=
  ∀ h : Handle, ∀ r ∈ s.record? h, P r

/-! ### The table -/

/-- A live or vacated slot has an epoch of at least 1 (R2); a vacated slot's change set is not empty (R1); a live record never
holds RETIRED (section 10.1). -/
abbrev Slot.Ok (x : Slot) : Prop :=
  (x.body.isFree = false → x.epoch ≠ 0) ∧
  (x.body.isVacated = true → x.body.changes ≠ 0) ∧
  (x.body.isLive = true → x.body.changes.getLsbD 4 = false)

/-- What every slot meets. -/
abbrev State.SlotsOk (s : State) : Prop := ∀ h : Handle, s.slots[h].Ok

/-- No two live records have the same key (R12). -/
abbrev State.KeysUnique (s : State) : Prop :=
  ∀ h : Handle, ∀ r ∈ s.record? h, s.findKey r.line r.station = some h

/-! ### Lines and arbiters -/

/-- The fields of a line stay in their ranges, and its silence timer runs exactly while it is DOWN or UP (R60, R65). -/
abbrev Line.Ok (ln : Line) : Prop :=
  ln.quota ≤ 64 ∧ 1 ≤ ln.keepalive ∧ ln.keepalive ≤ 255 ∧ ln.badRun ≤ 8 ∧
  ln.txQueue.length ≤ Config.txQueueDepth ∧
  (ln.silence.isSome = true ↔ ln.state = .down ∨ ln.state = .up)

/-- What every line meets. -/
abbrev State.LinesOk (s : State) : Prop := ∀ l : LineId, s.lines[l].Ok

/-- The live records of a line never number more than its quota (R13). -/
abbrev State.QuotasOk (s : State) : Prop := ∀ l : LineId, s.liveCount l ≤ s.lines[l].quota

/-- WAITING, NEGOTIATING and BACKOFF records stand on an UP line, PARKED records on one that is not UP (R81, R100, R117). -/
abbrev State.RecordFitsLine (s : State) (r : Record) : Prop :=
  (r.state = .waiting ∨ r.state = .negotiating ∨ r.state = .backoff → s.lineIsUp r.line = true) ∧
  (r.state = .parked → s.lineIsUp r.line = false)

/-- The record of a handle is on a line, in a state. -/
abbrev State.isOn (s : State) (l : LineId) (st : RecState) (h : Handle) : Prop :=
  ∃ r ∈ s.record? h, r.line = l ∧ r.state = st

/-- The grant is held by the NEGOTIATING record of the line; the wait queue holds its WAITING records, each
once and in the class its cause gives (R81, R82); a free grant of an UP line has nothing to be handed to (R83). -/
abbrev State.ArbiterOk (s : State) (l : LineId) : Prop :=
  (∀ h : Handle, s.arbiters[l].grant = some h ↔ s.isOn l .negotiating h) ∧
  (∀ h : Handle, h ∈ s.arbiters[l].urgent ++ s.arbiters[l].normal ↔ s.isOn l .waiting h) ∧
  (s.arbiters[l].urgent ++ s.arbiters[l].normal).Nodup ∧
  (∀ h : Handle, ∀ r ∈ s.record? h, h ∈ s.arbiters[l].urgent → r.cause.any Cause.isUrgent = true) ∧
  (∀ h : Handle, ∀ r ∈ s.record? h, h ∈ s.arbiters[l].normal → r.cause.any Cause.isUrgent = false) ∧
  (s.arbiters[l].grant = none → s.arbiters[l].urgent ++ s.arbiters[l].normal = [])

/-- What every arbiter meets. -/
abbrev State.ArbitersOk (s : State) : Prop := ∀ l : LineId, s.ArbiterOk l

/-! ### The stores -/

/-- The three constraints of a ladder (R44). -/
abbrev Ladder.Ok (l : Ladder) : Prop :=
  (∀ k : Step, l[k].fall.toNat ≤ l[k].rise.toNat) ∧
  (∀ k j : Step, k.val + 1 = j.val → l[k].rise.toNat ≤ l[j].rise.toNat) ∧
  (∀ k j : Step, k.val + 1 = j.val → l[k].fall.toNat ≤ l[j].fall.toNat)

/-- What every ladder meets. -/
abbrev State.LaddersOk (s : State) : Prop := ∀ l : Fin 4, Ladder.Ok s.ladders[l]

/-- A grace is UNBOUNDED or at most 6000 units (Table 3-1). -/
def Grace.inRange : Grace → Bool
  | .bounded n => decide (n ≤ 6000)
  | .unbounded => true

/-- The fields of a profile lie in the ranges of Table 3-1 (R29, R31). -/
abbrev Profile.InRange (p : Profile) : Prop :=
  (1 ≤ p.riseSamples ∧ p.riseSamples ≤ 15) ∧ (1 ≤ p.fallSamples ∧ p.fallSamples ≤ 15) ∧
  p.holdoverTime ≤ 6000 ∧ (5 ≤ p.negTimeout ∧ p.negTimeout ≤ 500) ∧
  (1 ≤ p.confirmTimeout ∧ p.confirmTimeout ≤ 100) ∧ p.retryLimit ≤ 7 ∧
  (10 ≤ p.backoffBase ∧ p.backoffBase ≤ 1000) ∧ p.graceDefault.inRange = true

/-- The cross-field conditions of a committed profile (R29). -/
abbrev Profile.CrossOk (p : Profile) : Prop :=
  (∃ k : Step, StepSet.has p.offerMask k = true ∧ p.floor ≤ k) ∧ p.floor ≤ p.cap

/-- The staging profile meets the ranges, every VALID profile meets the ranges and the cross-field conditions, and P0 is
VALID (R28, R29, R31). -/
abbrev State.ProfilesOk (s : State) : Prop :=
  s.staging.InRange ∧ s.isValid 0 = true ∧ ∀ n : Fin 16, ∀ p ∈ s.profiles[n], p.InRange ∧ p.CrossOk

/-- Every live record and every line names a VALID profile (R5, R60). -/
abbrev State.BindingsOk (s : State) : Prop :=
  (∀ h : Handle, ∀ r ∈ s.record? h, s.isValid r.profile = true) ∧
  ∀ l : LineId, s.isValid s.lines[l].defaultProfile = true

/-! ### The ports -/

/-- GO reads one exactly while a sweep runs, and then COMMAND_DONE is clear or was cleared, the results and the status
read zero (R159, R165); only the named bits of ENABLES are held (Table 13-6). -/
abbrev State.PortOk (s : State) : Prop :=
  (s.port.go = s.sweep.isSome) ∧
  (s.port.go = true → s.flags.commandDone = false ∧ s.port.status = 0 ∧ s.port.res = Vector.replicate 8 0) ∧
  s.enables &&& ~~~Config.enablesMask = 0

/-- The counts of a sweep fit its cursor (R37): requeued, parked and rerun add up to at most visited, visited to at most the
slots examined. -/
abbrev State.SweepOk (s : State) : Prop :=
  ∀ w ∈ s.sweep, w.cursor ≤ 256 ∧ w.visited ≤ w.cursor ∧ w.requeued + w.parked + w.rerun ≤ w.visited

/-- Held in reset or in power-on, every block holds its reset values (R169). -/
abbrev State.HeldOk (s : State) : Prop :=
  s.running = false → s = { State.reset with
    poweringOn := s.poweringOn, resetLow := s.resetLow, now := s.now, spi := s.spi.cut, pending := s.pending }

/-! ### The lanes and the SPI pins -/

/-- What a line holds of a frame under way on either lane is less than the whole of it (R62, R171). -/
abbrev Line.LanesOk (ln : Line) : Prop :=
  ln.rxBytes.length < 5 ∧ (∀ bits ∈ ln.rxBits, bits.length ≤ 8) ∧ ln.rxHigh ≤ 20 ∧ ln.txSent < 50 ∧
  (ln.sending = none → ln.txSent = 0)

/-- What the lookup port holds of a query or an answer under way is less than the whole of it (R136, R172). -/
abbrev LookupPort.LanesOk (p : LookupPort) : Prop :=
  p.rxBytes.length < 5 ∧ (∀ bits ∈ p.rxBits, bits.length ≤ 8) ∧ p.txSent < 90 ∧ (p.answer = none → p.txSent = 0)

/-- What the SPI port holds of a word under way is less than the whole of it (R173). -/
abbrev Spi.WordOk (x : Spi) : Prop :=
  (∀ bits, x = .header bits → bits.length < 16) ∧ (∀ a bits, x = .writing a bits → bits.length < 16) ∧
  ∀ a w n, x = .reading a w n → n < 16

/-- What the lanes and the SPI port meet. -/
abbrev State.LanesOk (s : State) : Prop := (∀ l : LineId, s.lines[l].LanesOk) ∧ s.lookup.LanesOk ∧ s.spi.WordOk

/-! ### Time -/

/-- A running timer was not started in the future, and its last moment to expire has not passed (R10). -/
abbrev Timer.InTime (now : Nat) (t : Timer) : Prop := t.start ≤ now ∧ now ≤ t.latest

/-- What every running timer of the part meets: no timer is ever overdue (R9, R10). -/
abbrev State.TimersInTime (s : State) : Prop :=
  s.EveryRecord (fun r => ∀ t ∈ r.timer, t.InTime s.now) ∧
  ∀ l : LineId, ∀ t ∈ s.lines[l].silence, t.InTime s.now

/-! ### Vocabulary: the host command port -/

/-- The code and the argument words of a host command row (Table 13-7, Table 11-4); UNKNOWN_COMMAND carries its code alone. -/
def hostCommand? : Instr → Option (Word × List Word)
  | .admitRecord a b c => some (0x01, [a, b, c])
  | .find a b => some (0x02, [a, b])
  | .read a => some (0x03, [a])
  | .rebind a b c => some (0x04, [a, b, c])
  | .cap a b c => some (0x05, [a, b, c])
  | .renegotiate a b => some (0x06, [a, b])
  | .retire a b c => some (0x07, [a, b, c])
  | .nextChange a => some (0x08, [a])
  | .ackChange a b c => some (0x09, [a, b, c])
  | .profileStage a b => some (0x10, [a, b])
  | .profileLoad a => some (0x11, [a])
  | .profileCommit a => some (0x12, [a])
  | .profileRead a b => some (0x13, [a, b])
  | .ladderWrite a b c d => some (0x18, [a, b, c, d])
  | .ladderRead a b => some (0x19, [a, b])
  | .lineConfig a b c d e => some (0x20, [a, b, c, d, e])
  | .lineRead a => some (0x21, [a])
  | .lineReset a => some (0x22, [a])
  | .lineAck a b => some (0x23, [a, b])
  | .clearTable => some (0x30, [])
  | .ident => some (0x3F, [])
  | .unknownCommand code => some (code, [])
  | _ => none

/-- Every argument the command uses lies in its range over its whole 16 bits (R163), by the rule of the command.
Whether a named profile is VALID is not judged here. -/
def hostArgsInRange : Instr → Bool
  | .admitRecord l st p => decide (l.toNat < 8 ∧ st.toNat < 4096 ∧ p.toNat < 16)
  | .find l st => decide (l.toNat < 8 ∧ st.toNat < 4096)
  | .read h => decide (h.toNat < 256)
  | .rebind h e p => decide (h.toNat < 256 ∧ e.toNat < 4096 ∧ p.toNat < 16)
  | .cap h e k => decide (h.toNat < 256 ∧ e.toNat < 4096 ∧ k.toNat < 13)
  | .renegotiate h e => decide (h.toNat < 256 ∧ e.toNat < 4096)
  | .retire h e g => decide (h.toNat < 256 ∧ e.toNat < 4096 ∧ (g.toNat ≤ 6000 ∨ 0xFFFE ≤ g.toNat))
  | .nextChange h => decide (h.toNat < 256)
  | .ackChange h e k => decide (h.toNat < 256 ∧ e.toNat < 4096 ∧ k.toNat < 32)
  | .profileLoad n => decide (n.toNat < 16)
  | .profileCommit n => decide (n.toNat < 16)
  | .profileRead n f => decide (n.toNat < 17 ∧ f.toNat < 14)
  | .ladderWrite l k r f =>
    decide (l.toNat < 4 ∧ (1 ≤ k.toNat ∧ k.toNat < 13) ∧ r.toNat < 256 ∧ f.toNat < 256)
  | .ladderRead l k => decide (l.toNat < 4 ∧ 1 ≤ k.toNat ∧ k.toNat < 13)
  | .lineConfig l q m p k =>
    decide (l.toNat < 8 ∧ q.toNat ≤ 64 ∧ m.toNat < 2 ∧ p.toNat < 16 ∧ 1 ≤ k.toNat ∧ k.toNat < 256)
  | .lineRead l => decide (l.toNat < 8)
  | .lineReset l => decide (l.toNat < 8)
  | .lineAck l k => decide (l.toNat < 8 ∧ k.toNat < 32)
  | .profileStage n w => match n.toNat with
    | 0 => decide (w.toNat < 4096)
    | 1 => decide (1 ≤ w.toNat ∧ w.toNat ≤ 12)
    | 2 => decide (1 ≤ w.toNat ∧ w.toNat ≤ 12)
    | 3 => decide (w.toNat ≤ 3)
    | 4 => decide (w.toNat ≤ 1)
    | 5 => decide (1 ≤ w.toNat ∧ w.toNat ≤ 15)
    | 6 => decide (1 ≤ w.toNat ∧ w.toNat ≤ 15)
    | 7 => decide (w.toNat ≤ 6000)
    | 8 => decide (5 ≤ w.toNat ∧ w.toNat ≤ 500)
    | 9 => decide (1 ≤ w.toNat ∧ w.toNat ≤ 100)
    | 10 => decide (w.toNat ≤ 7)
    | 11 => decide (10 ≤ w.toNat ∧ w.toNat ≤ 1000)
    | 12 => decide (w.toNat ≤ 6000 ∨ w.toNat = 0xFFFF)
    | 13 => decide (w.toNat < 32)
    | _ => false
  | _ => true

/-- The part takes events and no host command is in execution. -/
abbrev State.ready (s : State) : Prop := s.running = true ∧ s.port.go = false

/-- A state in which a host command has completed: its code and arguments stand in the mailbox, the status and the results are
written, the words not named are zero, GO is zero and COMMAND_DONE is set (R158, R159, R164). -/
def State.answered (s : State) (code : Word) (args : List Word) (status : Status) (res : List Word) : State :=
  { s with
    port := { s.port with
      mailbox := code
      args := Vector.ofFn fun i : Fin 6 => args.getD i.val s.port.args[i]
      res := Vector.ofFn fun i : Fin 8 => res.getD i.val 0
      go := false
      status := status.code }
    flags := { s.flags with commandDone := true } }

/-! ### Vocabulary: frames, queries and records -/

/-- The line of a row that is a frame received on a report link. -/
def frameLine? : Instr → Option LineId
  | .lineUp l _ => some l
  | .lineDown l => some l
  | .alive l => some l
  | .capability l _ _ => some l
  | .outcome l _ _ => some l
  | .confirm l _ _ => some l
  | .carrier l _ _ => some l
  | .quality l _ _ => some l
  | .malformedFrame l => some l
  | _ => none

/-- The tag of a row that is a query received on the lookup link. -/
def queryTag? : Instr → Option Tag
  | .lookupFind tag _ _ => some tag
  | .peek tag _ _ => some tag
  | .hold tag _ _ => some tag
  | .release tag _ _ => some tag
  | .badQuery tag => some tag
  | _ => none

/-- The four rows that act while the part is held in reset (R169). -/
def isResetEvent : Instr → Bool
  | .powerOn => true
  | .powerOnEnd => true
  | .resetn => true
  | .resetnRelease => true
  | _ => false

/-- Some live record has the key (R12). -/
abbrev State.keyLive (s : State) (l : LineId) (st : Station) : Prop :=
  ∃ h : Handle, ∃ r ∈ s.record? h, r.line = l ∧ r.station = st

/-- A live record with the key, at its handle. -/
abbrev State.hasRecord (s : State) (h : Handle) (r : Record) (l : LineId) (st : Station) : Prop :=
  s.record? h = some r ∧ r.line = l ∧ r.station = st

/-- A pair names this record (R3). -/
abbrev State.names (s : State) (h : Handle) (e : Epoch) (r : Record) : Prop :=
  e ≠ 0 ∧ s.slots[h].epoch = e ∧ s.record? h = some r

/-- A slot is the one an allocation chooses (R14): the lowest free slot, or the lowest vacated one when none is free. -/
abbrev State.chooses (s : State) (h : Handle) : Prop :=
  (s.slots[h].body.isFree = true ∧ ∀ k : Handle, k < h → s.slots[k].body.isFree = false) ∨
  ((∀ k : Handle, s.slots[k].body.isFree = false) ∧ s.slots[h].body.isVacated = true ∧
    ∀ k : Handle, k < h → s.slots[k].body.isVacated = false)

/-- A record with the creation values of Table 2-1. -/
def createdRecord (l : LineId) (st : Station) (p : Fin 16) (mask : Option StepSet) (state : RecState)
    (cause : Cause) (changes : BitVec 5) : Record :=
  { line := l, station := st, profile := p, state := state, cause := some cause, attempt := none
    remoteMask := mask, agreed := none, generation := 0, capOverride := none, quality := none
    riseCount := 0, fallCount := 0, forwardBlocked := false, attempts := 0, carrier := .unknown
    holds := 0, changes := changes, timer := none }

/-- A new record put into a slot: the epoch steps in the cycle 1, 2, …, 4095, 1 (R2), reclaiming sets NOTICE_LOST (R15), and on
an UP line the record stands at the tail of the normal class (R17, R18). -/
def State.created (s : State) (h : Handle) (r : Record) : State :=
  let s1 := { s with
    slots := s.slots.set h
      { epoch := if s.slots[h].epoch = 4095 then 1 else s.slots[h].epoch + 1, body := .live r }
    flags := { s.flags with noticeLost := s.flags.noticeLost || s.slots[h].body.isVacated } }
  if s.lineIsUp r.line then s1.modArbiter r.line fun a => { a with normal := a.normal ++ [h] } else s1

/-- A change set with kinds recorded under a notify mask (R21). -/
def recorded (changes kinds : BitVec 5) (p : Profile) : BitVec 5 := changes ||| (kinds &&& p.notifyMask)

/-- The line part of a valid frame that leaves the line DOWN or UP (R64): the state, STATE if it changed, the run cleared, the
silence timer restarted. -/
def lineAfterFrame (state : LineState) (now : Nat) (ln : Line) : Line :=
  { ln with
    state := state
    changes := if ln.state = state then ln.changes else ln.changes ||| lineKindState
    badRun := 0
    silence := some { start := now, duration := 10 * ln.keepalive } }

/-- The state after a command, where it answers next. -/
def State.after (c : Instr) (s : State) : State := match exec c s with
  | .next t => t
  | .fault _ => s
  | .refused _ => s

/-- One thing after another. -/
def andThen (o : Result) (f : State → Result) : Result := match o with
  | .next t => f t
  | .fault e => .fault e
  | .refused e => .refused e

/-- Bytes arrive on a report link, one after another, with no idle between them. -/
def State.reportBytes (s : State) (l : LineId) (bytes : List Byte) : Result :=
  bytes.foldl (fun o b => andThen o fun t => t.reportByte l b) (.next s)

/-- Bytes arrive on the lookup link, one after another, with no idle between them. -/
def State.lookupBytesArrive (s : State) (bytes : List Byte) : Result :=
  bytes.foldl (fun o b => andThen o fun t => t.lookupByte b) (.next s)

/-- Bit times with these levels on a report link's receive lane. -/
def State.reportLevels (s : State) (l : LineId) (levels : List Bool) : Result :=
  levels.foldl (fun o b => andThen o fun t => t.reportLevel l b) (.next s)

/-- Bit times with these levels on the lookup link's receive lane, which carries `ahead` after them. -/
def State.lookupLevels (s : State) (ahead : List Bool) : List Bool → Result
  | [] => .next s
  | b :: rest => andThen (s.lookupLevel b (rest ++ ahead)) fun t => t.lookupLevels ahead rest

/-- So many bit times of a report link's transmit lane. -/
def State.reportTxNexts (s : State) (l : LineId) (n : Nat) : Result :=
  (List.range n).foldl (fun o _ => andThen o fun t => t.reportTxNext l) (.next s)

/-- So many bit times of the lookup link's transmit lane. -/
def State.lookupTxNexts (s : State) (n : Nat) : Result :=
  (List.range n).foldl (fun o _ => andThen o State.lookupTxNext) (.next s)

/-- SCK cycles with these levels on MOSI. -/
def State.spiCycles (s : State) (mosi : List Bool) : Result :=
  mosi.foldl (fun o b => andThen o fun t => t.spiClock b) (.next s)

/-- What the part drives on MISO in these SCK cycles. -/
def State.spiOut (s : State) : List Bool → List (Option Bool)
  | [] => []
  | b :: rest => s.spiMiso :: match s.spiClock b with
    | .next t => t.spiOut rest
    | .fault _ => []
    | .refused _ => []

/-- The mailbox writes that put a command's code and its arguments into the window, word by word (R158). -/
def mailboxWrites (code : Word) (args : List Word) : List Instr :=
  .mailboxWrite .code code :: (List.finRange 6).filterMap fun i => args[i.val]?.map (.mailboxWrite (.arg i))

/-- The commands taken one after another. -/
def runAll (s : State) (cs : List Instr) : Result := cs.foldl (fun o c => andThen o (exec c)) (.next s)

/-- Two states agree on everything that no host command, frame or expiry of the table may reach: the ports, the stores and the
held inputs. -/
abbrev State.SameOutside (s t : State) : Prop :=
  t = { s with
    now := t.now, slots := t.slots, lines := t.lines, arbiters := t.arbiters, flags := t.flags }

end Sys2Proof.Machine
end

