-- ==== Sys2Proof/Certificates/Slice0/Obligations.lean ====
section
/-! DEFINITION. The statements for the provers. -/

open Sys2Proof Sys2Proof.Machine

/-! ### The machine -/

/-- A command at the front of the queue is taken: the step is its meaning on the state with the queue's rest. -/
def Obligations.StepRunsFrontCommand : Prop :=
  ∀ (c : Instr) (rest : List Instr) (s : State), s.pending = c :: rest →
    step s = exec c { s with pending := rest }

/-- On an empty queue the event the part itself owes is taken, and 1 ms of the time base passes only when it owes none: then no
timer of a record or a line has reached the last moment at which it can expire (R9, R10). A timer of zero duration expires
before anything else that the part does of its own accord (R9). That the part acts on its own only while no command waits, in
whole ms and at the last moment, is the model's choice (logs 2 and 3). -/
def Obligations.StepOnEmptyQueue : Prop :=
  ∀ s : State, s.pending = [] → s.running = true → s.EveryRecord (fun r => r.AttemptOk ∧ r.TimerOk) →
    (∀ c, s.nextInternal = some c → step s = exec c s) ∧
    (s.nextInternal = none → step s = .next { s with now := s.now + 1 } ∧
      (∀ h : Handle, ∀ r ∈ s.record? h, ∀ tm ∈ r.timer, s.now < tm.latest) ∧
      ∀ l : LineId, ∀ tm ∈ s.lines[l].silence, s.now < tm.latest) ∧
    ((∃ h : Handle, ∃ r ∈ s.record? h, ∃ tm ∈ r.timer, tm.duration = 0) →
      ∃ h : Handle, ∃ r ∈ s.record? h, (∃ tm ∈ r.timer, tm.duration = 0) ∧
        (r.inOffered = true → s.nextInternal = some (.negotiationTimerExpiry h)) ∧
        (r.inOrdered = true → s.nextInternal = some (.confirmTimerExpiry h)) ∧
        (r.state = .holdover → s.nextInternal = some (.holdoverExpiry h)) ∧
        (r.state = .backoff → s.nextInternal = some (.backoffExpiry h)) ∧
        (r.state = .retiring → s.nextInternal = some (.graceExpiry h)))

/-- Every command answers a next state in every state. That no command faults or is refused is read from the spec by inference:
every event is taken whole (R11), and every damaged, refused or discarded input has an effect of its own (log 12). That it
leaves the queue of waiting commands alone, POWER_ON and RESETN too, is the model's choice (logs 2 and 6), and so is that the
time base stands still while a command is taken (log 3). -/
def Obligations.EveryCommandAnswersNext : Prop :=
  ∀ (c : Instr) (s : State), ∃ t, exec c s = .next t ∧ t.pending = s.pending ∧ t.now = s.now

/-- The values after power-on or RESETn that the chapters' reset tables give (R27, R43, R44, R60, R80, R81, R135, R152, R155, R168),
read at State.reset; P0 and staging hold the fourteen factory defaults of Table 3-1 (R28, R29, R31), and nothing is under way on
a lane (R169). -/
def Obligations.ResetValues : Prop :=
  (∀ h : Handle, State.reset.slots[h] = { epoch := 0, body := .free }) ∧
  (∀ l : LineId, State.reset.lines[l] =
    { state := .absent, ceiling := 11, mode := .closed, defaultProfile := 0, quota := 32, keepalive := 20
      silence := none, badRun := 0, changes := 0, txQueue := [], sending := none, txSent := 0
      rxBits := none, rxHigh := 0, rxBytes := [], rxWaitsIdle := true }) ∧
  (∀ l : LineId, State.reset.arbiters[l] = { grant := none, urgent := [], normal := [] }) ∧
  (let p0 : Profile :=
    { offerMask := 0xFFF, floor := 0, cap := 11, ladder := 0, forwardEn := true, riseSamples := 4, fallSamples := 2
      holdoverTime := 200, negTimeout := 50, confirmTimeout := 10, retryLimit := 3, backoffBase := 25
      graceDefault := .bounded 300, notifyMask := 0x13 };
    (∀ n : Fin 16, State.reset.profiles[n] = if n = 0 then some p0 else none) ∧ State.reset.staging = p0 ∧
    (List.finRange 14).map p0.field = [0xFFF, 1, 12, 0, 1, 4, 2, 200, 50, 10, 3, 25, 300, 0x13]) ∧
  State.reset.sweep = none ∧
  (∀ (l : Fin 4) (k : Step), State.reset.ladders[l][k].rise.toNat = 20 * (k.val + 1) ∧
    State.reset.ladders[l][k].fall.toNat = 20 * (k.val + 1) - 8) ∧
  State.reset.port.mailbox = 0 ∧ (∀ i : Fin 6, State.reset.port.args[i] = 0) ∧
  (∀ i : Fin 8, State.reset.port.res[i] = 0) ∧ State.reset.port.go = false ∧ State.reset.port.status = 0 ∧
  State.reset.port.mailboxBusy = false ∧
  State.reset.lookup = { answer := none, pendingOverrun := false, txSent := 0, rxBits := none, rxBytes := [], rxWaitsIdle := true } ∧
  State.reset.flagsWord = 0 ∧ State.reset.enables = 0x801F ∧ State.reset.causeWord = 0 ∧
  State.reset.intnAsserted = false

/-! ### Power and reset -/

/-- POWER_ON and RESETN give every block its reset values and end an SPI transaction in progress, whose rest is skipped (R157,
R168); POWER_ON_END and RESETN_RELEASE end the one holding they name (R169). That the pins, the time base and the queue of
commands stay is the model's choice (logs 3 and 6). While the part is held in power-on or reset no other event is taken, every
read returns zero and INTn is released (R169). -/
def Obligations.ResetHoldsThePart : Prop :=
  (∀ s : State,
    let spi := if s.spi = .idle then Spi.idle else .skipped
    exec .powerOn s = .next { State.reset with
      poweringOn := true, resetLow := s.resetLow, now := s.now, spi := spi, pending := s.pending } ∧
    exec .resetn s = .next { State.reset with
      poweringOn := s.poweringOn, resetLow := true, now := s.now, spi := spi, pending := s.pending } ∧
    exec .powerOnEnd s = .next { s with poweringOn := false } ∧
    exec .resetnRelease s = .next { s with resetLow := false }) ∧
  (∀ s : State, s.running = false →
    (∀ c : Instr, isResetEvent c = false → exec c s = .next s) ∧
    (∀ a : BitVec 5, s.readWord a = 0) ∧
    (s.HeldOk → s.intnAsserted = false))

/-- After a reset each receiver waits for an idle of two byte times: before it, frames and queries on that lane change nothing; the
idle ends the waiting of that receiver alone (R169). The bytes of a report link are cut into frames: before the first idle they
are ignored, five of them are a frame, taken at the fifth, and an idle after fewer makes them a short frame, which is malformed;
an idle after none is nothing (R62, R169). The bytes of the lookup link are cut into queries in the same way, but that a short
query arrives where the idle after it begins; it is malformed and bears the tag of its first byte (R136, R140, R169). The levels
on a receive lane, one for each bit time: a start bit, eight data bits with bit 0 first and a stop bit of either level are a
byte, and twenty high levels between bytes are an idle of two byte times, which ends a frame when it has lasted and a query
where it begins, so that the query is discarded by a port that is BUSY then (R62, R136, R138, R171, R172). Before the first idle
after a reset no byte is told apart; while the part is held no level is taken (R169). -/
def Obligations.ReceiversWaitForIdle : Prop :=
  ((∀ (s : State) (l : LineId), s.running = true →
    exec (.idleOfTwoByteTimes (.report l)) s = .next (s.modLine l fun ln => { ln with rxWaitsIdle := false })) ∧
  (∀ s : State, s.running = true →
    exec (.idleOfTwoByteTimes .lookup) s = .next { s with lookup := { s.lookup with rxWaitsIdle := false } }) ∧
  (∀ (s : State) (c : Instr) (l : LineId), frameLine? c = some l → s.lines[l].rxWaitsIdle = true →
    exec c s = .next s) ∧
  (∀ (s : State) (c : Instr) (tag : Tag), queryTag? c = some tag → s.lookup.rxWaitsIdle = true →
    exec c s = .next s)) ∧
  (∀ (s : State) (l : LineId),
    (s.hears l = false → (∀ b, s.reportByte l b = .next s) ∧
      s.reportIdle l = exec (.idleOfTwoByteTimes (.report l)) s) ∧
    (s.hears l = true → s.lines[l].rxBytes = [] →
      s.reportIdle l = .next s ∧
      (∀ b0 b1 b2 b3 b4 : Byte, s.reportBytes l [b0, b1, b2, b3, b4] =
        exec (classifyFrame l [b0, b1, b2, b3, b4]) s) ∧
      ∀ got : List Byte, got.length < 5 →
        s.reportBytes l got = .next (s.modLine l fun ln => { ln with rxBytes := got }) ∧
        (got ≠ [] → andThen (s.reportBytes l got) (fun t => t.reportIdle l) = exec (.malformedFrame l) s))) ∧
  (∀ s : State,
    (s.running = false ∨ s.lookup.rxWaitsIdle = true → (∀ b, s.lookupByte b = .next s) ∧
      s.lookupIdleBegins = exec (.idleOfTwoByteTimes .lookup) s) ∧
    (s.running = true → s.lookup.rxWaitsIdle = false → s.lookup.rxBytes = [] →
      s.lookupIdleBegins = .next s ∧
      (∀ b0 b1 b2 b3 b4 : Byte, s.lookupBytesArrive [b0, b1, b2, b3, b4] =
        exec (classifyQuery [b0, b1, b2, b3, b4]) s) ∧
      ∀ (b : Byte) (rest : List Byte), rest.length < 4 →
        s.lookupBytesArrive (b :: rest) = .next { s with lookup := { s.lookup with rxBytes := b :: rest } } ∧
        andThen (s.lookupBytesArrive (b :: rest)) State.lookupIdleBegins =
          exec (.badQuery (b.extractLsb' 0 4)) s)) ∧
  ((∀ (s : State) (l : LineId), s.running = true →
    (s.lines[l].rxWaitsIdle = false → s.lines[l].rxBits = none →
      (∀ (b : Byte) (stop : Bool), s.reportLevels l ((laneBits b).set 9 stop) =
        (s.modLine l fun ln => { ln with rxHigh := 0 }).reportByte l b) ∧
      (s.lines[l].rxHigh = 0 →
        (∀ n < 20, s.reportLevels l (List.replicate n true) =
          .next (s.modLine l fun ln => { ln with rxHigh := n })) ∧
        s.reportLevels l (List.replicate 20 true) =
          (s.modLine l fun ln => { ln with rxHigh := 20 }).reportIdle l) ∧
      (s.lines[l].rxHigh = 20 → s.reportLevel l true = .next s)) ∧
    (s.lines[l].rxWaitsIdle = true → s.lines[l].rxBits = none →
      s.reportLevel l false = .next (s.modLine l fun ln => { ln with rxHigh := 0 }) ∧
      (s.lines[l].rxHigh = 0 → s.reportLevels l (List.replicate 20 true) =
        exec (.idleOfTwoByteTimes (.report l)) (s.modLine l fun ln => { ln with rxHigh := 20 })))) ∧
  (∀ s : State, s.running = true → s.lookup.rxBits = none →
    let idle := fun ahead : List Bool => ahead.take 19 = List.replicate 19 true
    (∀ ahead, idle ahead → s.lookupLevel true ahead = s.lookupIdleBegins) ∧
    (∀ ahead, ¬idle ahead → s.lookupLevel true ahead = .next s) ∧
    (s.lookup.rxWaitsIdle = false →
      (∀ (b : Byte) (stop : Bool) (ahead : List Bool),
        s.lookupLevels ahead ((laneBits b).set 9 stop) = s.lookupByte b) ∧
      ∀ (a : Answer) (ahead : List Bool), s.lookup.answer = some a → s.lookup.rxBytes ≠ [] →
        s.lookup.rxBytes.length < 5 → idle ahead →
        andThen (s.lookupLevel true ahead) (exec .answerSent) = .next { s with
          lookup := { s.lookup with answer := none, txSent := 0, pendingOverrun := true, rxBytes := [] }
          flags := { s.flags with lookupOverrun := true } }) ∧
    (s.lookup.rxWaitsIdle = true → ∀ ahead, s.lookupLevel false ahead = .next s)) ∧
  (∀ s : State, s.running = false → ∀ b : Bool,
    (∀ l, s.reportLevel l b = .next s) ∧ ∀ ahead, s.lookupLevel b ahead = .next s))

/-! ### The register window, the flags and INTn -/

/-- A write to FLAGS clears exactly the sticky flags written with one; the level flags and everything else stay (R151). -/
def Obligations.FlagsWriteClearsStickyFlags : Prop :=
  ∀ (s : State) (v : Word), s.running = true →
    ∃ t, exec (.flagsWrite v) s = .next t ∧ t = { s with flags := t.flags } ∧
      ∀ i : Fin 16, t.flagsWord.getLsbD i =
        (s.flagsWord.getLsbD i &&
          !(v.getLsbD i && decide (i.val = 1 ∨ i.val = 2 ∨ i.val = 4 ∨ i.val = 5)))

/-- The two level flags in FLAGS are functions of the change sets (R149). -/
def Obligations.LevelFlagsFollowChangeSets : Prop :=
  ∀ s : State,
    (s.flagsWord.getLsbD 3 = true ↔ ∃ h : Handle, s.slots[h].body.changes ≠ 0) ∧
    (s.flagsWord.getLsbD 0 = true ↔ ∃ l : LineId, s.lines[l].changes ≠ 0)

/-- INTn is asserted exactly when the master enable is on and some flag is both set and enabled (R153). The CAUSE code is the set
and enabled flag of highest priority, NONE when there is none, whatever the master enable; its mask has one indication per line
with a nonempty change set; its other bits are zero (R154, Table 13-6). -/
def Obligations.IntnAndCauseFollowTheFlags : Prop :=
  (∀ s : State, s.intnAsserted = true ↔
    s.enables.getLsbD 15 = true ∧
      ∃ i : Fin 6, s.flagsWord.getLsbD i = true ∧ s.enables.getLsbD i = true) ∧
  (∀ s : State,
    (∀ i : Fin 6, (s.causeWord.extractLsb' 0 3).toNat = i.val + 1 ↔
      (s.flagsWord.getLsbD i = true ∧ s.enables.getLsbD i = true) ∧
        ∀ j : Fin 6, j < i → ¬(s.flagsWord.getLsbD j = true ∧ s.enables.getLsbD j = true)) ∧
    ((s.causeWord.extractLsb' 0 3).toNat = 0 ↔
      ∀ i : Fin 6, ¬(s.flagsWord.getLsbD i = true ∧ s.enables.getLsbD i = true)) ∧
    (∀ l : LineId, s.causeWord.getLsbD (8 + l.val) = true ↔ s.lines[l].changes ≠ 0) ∧
    s.causeWord.extractLsb' 3 5 = 0)

/-- Writes to ENABLES and PORT_STATUS act at any time, ignored writes change nothing, and a mailbox word written while GO reads zero
holds the value and is read back (R152, R156, R158, R161). SPI transactions: CSn falling begins one, unless the part is held;
sixteen bits are the header, which gives the direction and the first address; each sixteen bits of a write are then a write of
the word at the current address, taken as the row of that word; a read drives the word as taken at its first bit, most
significant bit first; the address steps by one and wraps. CSn rising ends the transaction, and a word cut short is not written.
A transaction not taken writes nothing and reads zero (R156, R157, R169, R173). -/
def Obligations.WindowWrites : Prop :=
  (∀ s : State, s.running = true →
    (∀ v : Word, ∃ t, exec (.enablesWrite v) s = .next t ∧ t = { s with enables := t.enables } ∧
      ∀ i : Fin 16, t.enables.getLsbD i = (v.getLsbD i && decide (i.val < 6 ∨ i.val = 15))) ∧
    (∀ v : Word, exec (.portStatusWrite v) s =
      .next { s with port := { s.port with
        mailboxBusy := if v.getLsbD 0 then false else s.port.mailboxBusy } }) ∧
    (∀ (a : BitVec 5) (v : Word), (Instr.registerWrite a v).wellFormed = true →
      exec (.registerWrite a v) s = .next s) ∧
    (s.port.go = false → ∀ v : Word,
      exec (.mailboxWrite .code v) s = .next { s with port := { s.port with mailbox := v } } ∧
      ∀ i : Fin 6, ∃ t, exec (.mailboxWrite (.arg i) v) s = .next t ∧
        t = { s with port := { s.port with args := t.port.args } } ∧
        ∀ j : Fin 6, t.readWord (BitVec.ofNat 5 (8 + j.val)) =
          if i = j then v else s.readWord (BitVec.ofNat 5 (8 + j.val)))) ∧
  ((∀ s : State,
    (s.spi = .idle → s.spiMiso = none ∧
      s.spiSelect = { s with spi := if s.running then .header [] else .skipped }) ∧
    s.spiDeselect = { s with spi := .idle } ∧
    (s.spi = .skipped → ∀ b, s.spiMiso = some false ∧ s.spiClock b = .next s) ∧
    (∀ w : Word, s.spi = .header [] →
      s.spiOut (bitsOfWord w) = List.replicate 16 (some false) ∧
      s.spiCycles (bitsOfWord w) = .next { s with
        spi := if w.getLsbD 15 then .reading (w.extractLsb' 0 5) 0 0 else .writing (w.extractLsb' 0 5) [] }) ∧
    (∀ (a : BitVec 5) (v : Word), s.spi = .writing a [] →
      s.spiOut (bitsOfWord v) = List.replicate 16 (some false) ∧
      s.spiCycles (bitsOfWord v) = exec (.registerWrite a v) { s with spi := .writing (a + 1) [] }) ∧
    (∀ (a : BitVec 5) (bits : List Bool), s.spi = .writing a [] → bits.length < 16 →
      s.spiCycles bits = .next { s with spi := .writing a bits }) ∧
    (∀ (a : BitVec 5) (v : Word), s.spi = .reading a 0 0 →
      s.spiOut (bitsOfWord v) = (bitsOfWord (s.readWord a)).map some ∧
      s.spiCycles (bitsOfWord v) = .next { s with spi := .reading (a + 1) 0 0 })) ∧
  (∀ (s : State) (v : Word),
    (v.getLsbD 15 = true → exec (.registerWrite 0x02 v) s = exec .goWhileBusy s) ∧
    exec (.registerWrite 0x03 v) s = exec (.portStatusWrite v) s ∧
    exec (.registerWrite 0x04 v) s = exec (.flagsWrite v) s ∧
    exec (.registerWrite 0x05 v) s = exec (.enablesWrite v) s ∧
    exec (.registerWrite 0x07 v) s = exec (.mailboxWrite .code v) s ∧
    ∀ i : Fin 6, exec (.registerWrite (BitVec.ofNat 5 (0x08 + i.val)) v) s = exec (.mailboxWrite (.arg i) v) s))

/-- While GO reads one, every mailbox write is ignored and sets MAILBOX_BUSY: MAILBOX, an argument word, GO itself, and so every
host command (R160). -/
def Obligations.BusyMailboxRefuses : Prop :=
  ∀ s : State, s.running = true → s.port.go = true →
    let t := { s with port := { s.port with mailboxBusy := true } }
    exec .goWhileBusy s = .next t ∧
    (∀ (w : MailboxWord) (v : Word), exec (.mailboxWrite w v) s = .next t) ∧
    (∀ (c : Instr) (x : Word × List Word), hostCommand? c = some x → exec c s = .next t)

/-- What each word of the window reads as, while events are taken (R156, Table 13-6). -/
def Obligations.WindowReads : Prop :=
  ∀ s : State, s.running = true →
    s.readWord 0x00 = 0x2218 ∧ s.readWord 0x01 = 0x0001 ∧
    ((s.readWord 0x02).getLsbD 15 = s.port.go ∧ (s.readWord 0x02).extractLsb' 0 4 = s.port.status ∧
      (s.readWord 0x02).extractLsb' 4 11 = 0) ∧
    s.readWord 0x03 = (if s.port.mailboxBusy then 1 else 0) ∧
    s.readWord 0x04 = s.flagsWord ∧ s.readWord 0x05 = s.enables ∧ s.readWord 0x06 = s.causeWord ∧
    s.readWord 0x07 = s.port.mailbox ∧
    (∀ i : Fin 6, s.readWord (BitVec.ofNat 5 (0x08 + i.val)) = s.port.args[i]) ∧
    (∀ i : Fin 8, s.readWord (BitVec.ofNat 5 (0x0E + i.val)) = s.port.res[i]) ∧
    (∀ a : BitVec 5, 0x16 ≤ a.toNat → s.readWord a = 0)

/-! ### Host commands in general -/

/-- Every host command but PROFILE_COMMIT completes in its start event: GO zero, COMMAND_DONE set, the code and the arguments kept
in the mailbox, MAILBOX_BUSY as it stood (R159, R161, R164, R165). A host command that ends with a status other than OK changes
nothing but the port's words and COMMAND_DONE; with FULL it also sets TABLE_FULL (R162). A host command is its mailbox writes
word by word and then the write of CTRL with GO one: the code, then the argument words it uses, each taken as a MAILBOX_WRITE,
and the start, taken as the row of a CTRL write with GO one, end where the row of the command does (R158, R159). That one row
stands for all these writes is the model's choice (logs 1 and 11). -/
def Obligations.HostCommandsCompleteOrChangeNothing : Prop :=
  (∀ (c : Instr) (code : Word) (args : List Word) (s : State),
    hostCommand? c = some (code, args) → code ≠ 0x12 → s.ready →
    ∃ t, exec c s = .next t ∧ t.port.go = false ∧ t.flags.commandDone = true ∧
      t.port.mailbox = code ∧ (∀ i : Fin 6, t.port.args[i] = args.getD i.val s.port.args[i]) ∧
      t.port.mailboxBusy = s.port.mailboxBusy ∧ t.sweep = s.sweep ∧ t.lookup = s.lookup ∧
      t.enables = s.enables ∧ t.now = s.now) ∧
  (∀ (c : Instr) (x : Word × List Word) (s t : State),
    hostCommand? c = some x → s.ready → exec c s = .next t → t.port.status ≠ Status.ok.code →
    t = { s with
      port := t.port
      flags := { s.flags with
        commandDone := true
        tableFull := s.flags.tableFull || decide (t.port.status = Status.full.code) } } ∧
    t.port.mailboxBusy = s.port.mailboxBusy) ∧
  (∀ (c : Instr) (code : Word) (args : List Word) (s : State),
    hostCommand? c = some (code, args) → s.ready →
    runAll s (mailboxWrites code args ++ [.goWhileBusy]) = exec c s)

/-- An argument outside its range, judged over its whole 16 bits, is refused with BAD_ARG and no results (R162, R163). REBIND, CAP,
RENEGOTIATE and RETIRE with a pair that names no live record are refused with STALE, and with a RETIRING record with BUSY (R3,
R42, R105, R106, R125). -/
def Obligations.BadArgumentsAndPairsAreRefused : Prop :=
  (∀ (c : Instr) (code : Word) (args : List Word) (s : State),
    hostCommand? c = some (code, args) → (∀ w, c ≠ .unknownCommand w) → hostArgsInRange c = false →
    s.ready → exec c s = .next (s.answered code args .badArg [])) ∧
  (∀ (c : Instr) (code : Word) (args : List Word) (h : Handle) (e : Epoch) (s : State),
    (∃ p : Fin 16, s.isValid p = true ∧ c = .rebind (handleWord h) (e.setWidth 16) (wordOf p.val)) ∨
      (∃ k : Option Step, c = .cap (handleWord h) (e.setWidth 16) (stepWord k)) ∨
      c = .renegotiate (handleWord h) (e.setWidth 16) ∨
      (∃ g : Word, hostArgsInRange (.retire (handleWord h) (e.setWidth 16) g) = true ∧
        c = .retire (handleWord h) (e.setWidth 16) g) →
    hostCommand? c = some (code, args) → s.ready →
    ((∀ r, ¬s.names h e r) → exec c s = .next (s.answered code args .stale [])) ∧
    (∀ r, s.names h e r → r.state = .retiring → exec c s = .next (s.answered code args .busy [])))

/-- IDENT answers the two identification words, and a code that is no command's is refused with UNKNOWN_COMMAND; neither changes
anything else (R163, R166). -/
def Obligations.IdentAndUnknownCommand : Prop :=
  ∀ s : State, s.ready →
    exec .ident s = .next (s.answered 0x3F [] .ok [0x2218, 0x0001]) ∧
    s.readWord 0x00 = 0x2218 ∧ s.readWord 0x01 = 0x0001 ∧
    (∀ code : Word, (Instr.unknownCommand code).wellFormed = true →
      exec (.unknownCommand code) s = .next (s.answered code [] .unknownCommand []))

/-! ### Host commands of the table -/

/-- FIND returns the live record of a key, or NOT_FOUND when no live record has it (R24). -/
def Obligations.FindReturnsTheRecordOfAKey : Prop :=
  ∀ (s : State) (l : LineId) (st : Station), s.ready →
    let args := [lineWord l, st.setWidth 16]
    (∀ (h : Handle) (r : Record), s.KeysUnique → s.hasRecord h r l st →
      exec (.find (lineWord l) (st.setWidth 16)) s = .next (s.answered 0x02 args .ok
        [handleWord h, s.slots[h].epoch.setWidth 16, r.state.code.setWidth 16, stepWord r.agreed, r.generation])) ∧
    (¬s.keyLive l st →
      exec (.find (lineWord l) (st.setWidth 16)) s = .next (s.answered 0x02 args .notFound []))

/-- READ reports the condition and the content of a slot in the places of Table 13-9 and changes nothing (R25, R174). -/
def Obligations.ReadReportsASlot : Prop :=
  ∀ (s : State) (h : Handle), s.ready →
    ∃ t, exec (.read (handleWord h)) s = .next t ∧
      (∃ res, t = s.answered 0x03 [handleWord h] .ok res) ∧
      (t.port.res[0].extractLsb' 0 12 = s.slots[h].epoch) ∧
      (s.slots[h].body = .free → t.port.res[0].extractLsb' 12 4 = 0 ∧
        ∀ i : Fin 8, i ≠ 0 → t.port.res[i] = 0) ∧
      (∀ l st c, s.slots[h].body = .vacated l st c →
        (t.port.res[0].extractLsb' 14 2).toNat = 2 ∧ t.port.res[0].extractLsb' 12 2 = 0 ∧
        (t.port.res[1].extractLsb' 12 3).toNat = l.val ∧ t.port.res[1].extractLsb' 0 12 = st ∧
        t.port.res[2] = c.setWidth 16 ∧ ∀ i : Fin 8, 2 < i → t.port.res[i] = 0) ∧
      (∀ r, s.slots[h].body = .live r →
        (t.port.res[0].extractLsb' 14 2).toNat = 1 ∧ t.port.res[0].extractLsb' 12 2 = r.carrier.code ∧
        (t.port.res[1].getLsbD 15 = true ↔ ∃ a ∈ r.attempt, a.rerun = true) ∧
        (t.port.res[1].extractLsb' 12 3).toNat = r.line.val ∧ t.port.res[1].extractLsb' 0 12 = r.station ∧
        (t.port.res[2].extractLsb' 12 4).toNat = r.profile.val ∧
        t.port.res[2].extractLsb' 9 3 = r.state.code ∧ t.port.res[2].extractLsb' 5 4 = causeCode r.cause ∧
        t.port.res[2].extractLsb' 0 5 = r.changes ∧
        (t.port.res[3].extractLsb' 12 4).toNat = stepCode r.orderedStep ∧
        (∀ a ∈ r.attempt, t.port.res[3].extractLsb' 0 12 = a.offer) ∧
        (t.port.res[4].getLsbD 15 = r.remoteMask.isSome) ∧ (t.port.res[4].getLsbD 14 = r.timer.isSome) ∧
        (t.port.res[4].getLsbD 13 = r.forwardBlocked) ∧
        (∀ m ∈ r.remoteMask, t.port.res[4].extractLsb' 0 12 = m) ∧
        t.port.res[5] = r.generation ∧
        (t.port.res[6].extractLsb' 12 4).toNat = stepCode r.agreed ∧
        (t.port.res[6].extractLsb' 8 4).toNat = stepCode r.capOverride ∧
        (r.quality = none → (t.port.res[6].extractLsb' 4 4).toNat = 15 ∧ t.port.res[7].extractLsb' 8 8 = 0) ∧
        (∀ q ∈ r.quality, (t.port.res[6].extractLsb' 4 4).toNat = stepCode q.ceiling ∧
          t.port.res[7].extractLsb' 8 8 = q.value) ∧
        (r.AttemptsOk → (t.port.res[6].extractLsb' 0 4).toNat = r.attempts) ∧
        (r.HoldsOk → (t.port.res[7].extractLsb' 4 4).toNat = r.holds) ∧
        (r.QualityCountsOk → (t.port.res[7].extractLsb' 0 4).toNat = max r.riseCount r.fallCount ∧
          (t.port.res[4].getLsbD 12 = true ↔ r.fallCount ≠ 0)))

/-- The tests of ADMIT in order, and what each refusal answers (R14, R16). An ADMIT that passes its tests creates the record in the
chosen slot, WAITING or PARKED by the state of its line, and the hand-out follows (R2, R14, R15, R17). -/
def Obligations.AdmitTestsAndCreates : Prop :=
  (∀ (s : State) (l : LineId) (st : Station) (p : Fin 16), s.ready →
    let c := Instr.admitRecord (lineWord l) (st.setWidth 16) (wordOf p.val)
    let args := [lineWord l, st.setWidth 16, wordOf p.val]
    (s.isValid p = false → exec c s = .next (s.answered 0x01 args .badArg [])) ∧
    (s.isValid p = true → s.keyLive l st → exec c s = .next (s.answered 0x01 args .keyExists [])) ∧
    (s.isValid p = true → ¬s.keyLive l st → s.lines[l].quota ≤ s.liveCount l →
      exec c s = .next (s.answered 0x01 args .quota [])) ∧
    (s.isValid p = true → ¬s.keyLive l st → s.liveCount l < s.lines[l].quota →
      (∀ h : Handle, s.slots[h].body.isLive = true) →
      exec c s = .next (s.setTableFull.answered 0x01 args .full []))) ∧
  (∀ (s : State) (l : LineId) (st : Station) (p : Fin 16) (h : Handle), s.ready →
    s.isValid p = true → ¬s.keyLive l st → s.liveCount l < s.lines[l].quota → s.chooses h →
    let state := if s.lineIsUp l then RecState.waiting else RecState.parked
    let r := createdRecord l st p none state .initial (recorded 0 kindState (s.profileOf p))
    let t := (s.created h r).handOut l
    exec (.admitRecord (lineWord l) (st.setWidth 16) (wordOf p.val)) s =
      .next (t.answered 0x01 [lineWord l, st.setWidth 16, wordOf p.val] .ok
        [handleWord h, (s.created h r).slots[h].epoch.setWidth 16, state.code.setWidth 16]))

/-- REBIND binds the record and tests it at once against its new profile (R42, R38, R40). REBIND to an INVALID profile is refused
with BAD_ARG before the pair is looked at (R28, R42). -/
def Obligations.RebindBindsAndTests : Prop :=
  (∀ (s : State) (h : Handle) (e : Epoch) (p : Fin 16) (r : Record), s.ready → s.isValid p = true →
    s.names h e r → r.state ≠ .retiring →
    let bound := s.putRecord h { r with profile := p }
    let u := match r.state with
      | .agreed => if r.agreed.any (nonCompliant (s.profileOf p)) then bound.requeue h .profile else bound
      | .holdover => if r.agreed.any (nonCompliant (s.profileOf p)) then bound.requeue h .profile else bound
      | .negotiating => s.putRecord h { r with
          profile := p, attempt := r.attempt.map fun a : Attempt => { a with rerun := true } }
      | _ => bound
    let t := u.handOut r.line
    let shown := (t.record? h).elim (0 : Word) fun x => x.state.code.setWidth 16
    exec (.rebind (handleWord h) (e.setWidth 16) (wordOf p.val)) s =
      .next (t.answered 0x04 [handleWord h, e.setWidth 16, wordOf p.val] .ok
        [wordOf r.profile.val, shown])) ∧
  (∀ (s : State) (h : Handle) (e : Epoch) (p : Fin 16), s.ready → s.isValid p = false →
    exec (.rebind (handleWord h) (e.setWidth 16) (wordOf p.val)) s =
      .next (s.answered 0x04 [handleWord h, e.setWidth 16, wordOf p.val] .badArg []))

/-- CAP sets or removes the override, and the record reacts by Table 6-11 (R106, R84). The class move: the record keeps its state,
takes the cause and goes to the tail of the urgent class (R84). -/
def Obligations.CapSetsTheOverride : Prop :=
  (∀ (s : State) (h : Handle) (e : Epoch) (o : Option Step) (r : Record), s.ready →
    s.names h e r → r.state ≠ .retiring →
    let bound := s.putRecord h { r with capOverride := o }
    let exceeds := ∃ k ∈ r.agreed, ∃ c ∈ o, c < k
    let shown := fun t : State => (t.record? h).elim (0 : Word) fun x => x.state.code.setWidth 16
    ∃ u : State,
      (r.state = .agreed ∨ r.state = .holdover → exceeds → u = bound.requeue h .qualityDown) ∧
      (r.state = .agreed ∨ r.state = .holdover → ¬exceeds → u = bound) ∧
      (r.state = .waiting → exceeds → h ∈ s.arbiters[r.line].normal → u = bound.classMove h .qualityDown) ∧
      (r.state = .waiting → ¬(exceeds ∧ h ∈ s.arbiters[r.line].normal) → u = bound) ∧
      (r.state = .negotiating → u = s.putRecord h { r with
        capOverride := o, attempt := r.attempt.map fun a : Attempt => { a with rerun := true } }) ∧
      (r.state = .backoff ∨ r.state = .parked ∨ r.state = .failed → u = bound) ∧
      exec (.cap (handleWord h) (e.setWidth 16) (stepWord o)) s =
        .next ((u.handOut r.line).answered 0x05 [handleWord h, e.setWidth 16, stepWord o] .ok
          [stepWord r.capOverride, shown (u.handOut r.line)])) ∧
  (∀ (s : State) (h : Handle) (c : Cause) (r : Record), s.record? h = some r →
    s.classMove h c = (s.putRecord h { r with cause := some c }).modArbiter r.line fun a =>
      { a with urgent := a.urgent ++ [h], normal := a.normal.filter (· ≠ h) })

/-- RENEGOTIATE by record state (R105, Table 6-10). -/
def Obligations.RenegotiateByState : Prop :=
  ∀ (s : State) (h : Handle) (e : Epoch) (r : Record), s.ready → s.names h e r →
    let c := Instr.renegotiate (handleWord h) (e.setWidth 16)
    let args := [handleWord h, e.setWidth 16]
    let shown := fun t : State => (t.record? h).elim (0 : Word) fun x => x.state.code.setWidth 16
    let accepted := fun u : State =>
      Host.Outcome.next (φ := Fault) (ρ := Refusal)
        ((u.handOut r.line).answered 0x06 args .ok [shown (u.handOut r.line)])
    (r.state = .agreed → s.lineIsUp r.line = true → exec c s = accepted (s.requeue h .host)) ∧
    (r.state = .agreed → s.lineIsUp r.line = false → exec c s = .next (s.answered 0x06 args .lineDown [])) ∧
    (r.state = .failed → exec c s = accepted ((s.putRecord h { r with attempts := 0 }).requeue h .host)) ∧
    (∀ k, r.state = .backoff → r.cause = some k → exec c s = accepted (s.requeue h k)) ∧
    (r.state = .waiting ∨ r.state = .negotiating ∨ r.state = .holdover →
      exec c s = .next (s.answered 0x06 args .busy [])) ∧
    (r.state = .parked → exec c s = .next (s.answered 0x06 args .lineDown []))

/-- RETIRE detaches the record by Table 8-1, and the record leaves the table or enters RETIRING by its hold count (R125 to R127,
R22). -/
def Obligations.RetireDetachesAndEnds : Prop :=
  ∀ (s : State) (h : Handle) (e : Epoch) (w : Word) (g : Grace) (r : Record), s.ready →
    s.names h e r → r.state ≠ .retiring →
    (w.toNat ≤ 6000 ∧ g = .bounded w.toNat) ∨ (w = 0xFFFF ∧ g = .unbounded) ∨
      (w = 0xFFFE ∧ g = (s.profileOf r.profile).graceDefault) →
    let p := s.profileOf r.profile
    let c := Instr.retire (handleWord h) (e.setWidth 16) w
    let args := [handleWord h, e.setWidth 16, w]
    let detached := match r.state with
      | .negotiating => (s.releaseGrant r.line).sendDown r.line (.abandon r.station)
      | .agreed => s.sendDown r.line (.abandon r.station)
      | .holdover => s.sendDown r.line (.abandon r.station)
      | .waiting => s.modArbiter r.line fun a =>
          { a with urgent := a.urgent.filter (· ≠ h), normal := a.normal.filter (· ≠ h) }
      | _ => s
    let rate := if r.agreed.isSome then kindRate else 0
    let kinds := recorded r.changes (rate ||| kindRetired) p
    (r.holds = 0 → kinds = 0 →
      exec c s = .next (((detached.setBody h .free).handOut r.line).answered 0x07 args .ok [0, 0, 0])) ∧
    (r.holds = 0 → kinds ≠ 0 →
      exec c s = .next (((detached.setBody h (.vacated r.line r.station kinds)).handOut r.line).answered
        0x07 args .ok [1, 0, 0])) ∧
    (r.holds ≠ 0 →
      exec c s = .next (((detached.putRecord h { r with
        state := .retiring, cause := none, attempt := none, agreed := none
        generation := if r.agreed.isSome then r.generation + 1 else r.generation
        changes := recorded r.changes (rate ||| kindState) p
        timer := match g with
          | .bounded n => some { start := s.now, duration := 100 * n }
          | .unbounded => none }).handOut r.line).answered 0x07 args .ok [2, wordOf r.holds, g.code]))

/-- NEXT_CHANGE finds the first slot from its start with a nonempty change set, and does not wrap (R145). ACK_CHANGE removes the
named kinds from the set of a live or vacated slot; a vacated slot whose set becomes empty becomes free (R146). -/
def Obligations.NextChangeAndAckChange : Prop :=
  (∀ (s : State) (start : Handle), s.ready →
    (∀ (h : Handle) (l : LineId) (st : Station) (vacated : Word), start ≤ h → s.slots[h].body.changes ≠ 0 →
      (∀ k : Handle, start ≤ k → k < h → s.slots[k].body.changes = 0) →
      (∃ r, s.hasRecord h r l st ∧ vacated = 0) ∨
        (s.slots[h].body = .vacated l st s.slots[h].body.changes ∧ vacated = 1) →
      exec (.nextChange (handleWord start)) s = .next (s.answered 0x08 [handleWord start] .ok
        [handleWord h, s.slots[h].epoch.setWidth 16, vacated, s.slots[h].body.changes.setWidth 16,
          lineWord l, st.setWidth 16])) ∧
    ((∀ k : Handle, start ≤ k → s.slots[k].body.changes = 0) →
      exec (.nextChange (handleWord start)) s = .next (s.answered 0x08 [handleWord start] .notFound []))) ∧
  (∀ (s : State) (h : Handle) (e : Epoch) (kinds : BitVec 5), s.ready →
    let c := Instr.ackChange (handleWord h) (e.setWidth 16) (kinds.setWidth 16)
    let args := [handleWord h, e.setWidth 16, kinds.setWidth 16]
    (e = 0 ∨ s.slots[h].epoch ≠ e ∨ s.slots[h].body = .free →
      exec c s = .next (s.answered 0x09 args .stale [])) ∧
    (∀ r, s.names h e r →
      exec c s = .next ((s.putRecord h { r with changes := r.changes &&& ~~~kinds }).answered 0x09 args .ok
        [(r.changes &&& ~~~kinds).setWidth 16, 1])) ∧
    (∀ l st x, e ≠ 0 → s.slots[h].epoch = e → s.slots[h].body = .vacated l st x →
      (x &&& ~~~kinds ≠ 0 →
        exec c s = .next ((s.setBody h (.vacated l st (x &&& ~~~kinds))).answered 0x09 args .ok
          [(x &&& ~~~kinds).setWidth 16, 2])) ∧
      (x &&& ~~~kinds = 0 → exec c s = .next ((s.setBody h .free).answered 0x09 args .ok [0, 0]))))

/-- CLEAR_TABLE frees every slot with its epoch kept, empties every arbiter, hands ABANDON for each record NEGOTIATING, AGREED or
HOLDOVER in ascending handle order while the queue has room, and leaves the rest (R26, R74). That FAULT is recorded in the line
change set for an ABANDON that meets a full queue, as R74 gives, though R26, R80 and R155 say that line change sets are kept, is
the model's choice (log 19). -/
def Obligations.ClearTableEmptiesTheTable : Prop :=
  ∀ s : State, s.ready →
    ∃ t live vacated, exec .clearTable s = .next t ∧
      t = { s.answered 0x30 [] .ok [wordOf live, wordOf vacated] with
        slots := t.slots, lines := t.lines, arbiters := t.arbiters } ∧
      live = (List.finRange 256).countP (fun h => s.slots[h].body.isLive) ∧
      vacated = (List.finRange 256).countP (fun h => s.slots[h].body.isVacated) ∧
      (∀ h : Handle, t.slots[h] = { epoch := s.slots[h].epoch, body := .free }) ∧
      (∀ l : LineId, t.arbiters[l] = { grant := none, urgent := [], normal := [] }) ∧
      (∀ l : LineId,
        let owed := (List.finRange 256).filterMap fun h => match s.record? h with
          | some r => if r.line = l ∧ (r.state = .negotiating ∨ r.state = .agreed ∨ r.state = .holdover)
              then some (DownFrame.abandon r.station) else none
          | none => none
        let room := Config.txQueueDepth - s.lines[l].txQueue.length
        t.lines[l] = { s.lines[l] with
          txQueue := s.lines[l].txQueue ++ owed.take room
          changes := if room < owed.length then s.lines[l].changes ||| lineKindFault
            else s.lines[l].changes })

/-! ### The stores -/

/-- PROFILE_STAGE writes one field of the staging profile and no other (R32). PROFILE_LOAD copies a VALID profile into staging, and
is refused for an INVALID one (R33). PROFILE_READ returns one encoded field of a VALID profile or of staging, and the set of
VALID profiles (R34). -/
def Obligations.StagingCommands : Prop :=
  (∀ (s : State) (n : Fin 14) (w : Word), s.ready →
    hostArgsInRange (.profileStage (wordOf n.val) w) = true →
    ∃ p : Profile, exec (.profileStage (wordOf n.val) w) s =
        .next ({ s with staging := p }.answered 0x10 [wordOf n.val, w] .ok []) ∧
      p.field n = w ∧ ∀ m : Fin 14, m ≠ n → p.field m = s.staging.field m) ∧
  (∀ (s : State) (n : Fin 16), s.ready →
    (∀ p, s.profiles[n] = some p → exec (.profileLoad (wordOf n.val)) s =
      .next ({ s with staging := p }.answered 0x11 [wordOf n.val] .ok [])) ∧
    (s.profiles[n] = none → exec (.profileLoad (wordOf n.val)) s =
      .next (s.answered 0x11 [wordOf n.val] .notFound []))) ∧
  (∀ (s : State) (f : Fin 14), s.ready →
    ∃ valid : Word, (∀ n : Fin 16, valid.getLsbD n = s.profiles[n].isSome) ∧
    (∀ (n : Fin 16) (p : Profile), s.profiles[n] = some p →
      exec (.profileRead (wordOf n.val) (wordOf f.val)) s =
        .next (s.answered 0x13 [wordOf n.val, wordOf f.val] .ok [p.field f, valid])) ∧
    (∀ n : Fin 16, s.profiles[n] = none →
      exec (.profileRead (wordOf n.val) (wordOf f.val)) s =
        .next (s.answered 0x13 [wordOf n.val, wordOf f.val] .notFound [])) ∧
    exec (.profileRead 16 (wordOf f.val)) s =
      .next (s.answered 0x13 [16, wordOf f.val] .ok [s.staging.field f, valid]))

/-- PROFILE_COMMIT validates staging in the order of R35; a commit that passes makes the copy and begins the sweep with GO held
(R35, R36, R37, R159). -/
def Obligations.ProfileCommitValidatesAndStarts : Prop :=
  ∀ (s : State) (n : Fin 16), s.ready →
    let p := s.staging
    let offers := fun k : Step => StepSet.has p.offerMask k = true
    let c := Instr.profileCommit (wordOf n.val)
    let refused := fun check : Nat =>
      Host.Outcome.next (φ := Fault) (ρ := Refusal) (s.answered 0x12 [wordOf n.val] .badArg [wordOf check])
    ((∀ k, ¬offers k) → exec c s = refused 1) ∧
    ((∃ k, offers k) → (∀ k, offers k → k < p.floor) → exec c s = refused 2) ∧
    ((∃ k, offers k ∧ p.floor ≤ k) → p.cap < p.floor → exec c s = refused 3) ∧
    ((∃ k, offers k ∧ p.floor ≤ k) → p.floor ≤ p.cap →
      ∃ t, exec c s = .next t ∧
        t = { s with port := t.port, flags := t.flags, profiles := t.profiles, sweep := t.sweep } ∧
        (∀ m : Fin 16, t.profiles[m] = if m = n then some p else s.profiles[m]) ∧
        t.sweep = some { profile := n, cursor := 0, visited := 0, requeued := 0, parked := 0, rerun := 0 } ∧
        t.port.go = true ∧ t.port.status = 0 ∧ (∀ i : Fin 8, t.port.res[i] = 0) ∧
        t.port.mailbox = 0x12 ∧ t.port.mailboxBusy = s.port.mailboxBusy ∧
        (∀ i : Fin 6, t.port.args[i] = if i = 0 then wordOf n.val else s.port.args[i]) ∧ t.flags = { s.flags with commandDone := false })

/-- A sweep visit examines the slot at the cursor and acts by the state of a record bound to the committed profile (R37, R39, R40);
after handle 255 the sweep ends and PROFILE_COMMIT completes with its counts (R164, R165). A step is non-compliant with a
profile when it is not in OFFER_MASK, below FLOOR or above CAP (R38). -/
def Obligations.SweepVisitsSlotBySlot : Prop :=
  (∀ (s : State) (w : Sweep), s.running = true → s.sweep = some w →
    (∀ (h : Handle), w.cursor = h.val →
      let passed := { w with cursor := w.cursor + 1 }
      let seen := { passed with visited := w.visited + 1 }
      (s.record? h = none → exec .sweepVisit s = .next { s with sweep := some passed }) ∧
      ∀ r, s.record? h = some r →
        (r.profile ≠ w.profile → exec .sweepVisit s = .next { s with sweep := some passed }) ∧
        (r.profile = w.profile →
          let breach := ∃ k ∈ r.agreed, nonCompliant (s.profileOf w.profile) k = true
          (r.state = .waiting ∨ r.state = .backoff ∨ r.state = .parked ∨ r.state = .failed ∨
              r.state = .retiring → exec .sweepVisit s = .next { s with sweep := some seen }) ∧
          (r.state = .agreed ∨ r.state = .holdover → ¬breach →
            exec .sweepVisit s = .next { s with sweep := some seen }) ∧
          (r.state = .agreed ∨ r.state = .holdover → breach → s.lineIsUp r.line = true →
            exec .sweepVisit s = .next { (s.requeue h .profile).handOut r.line with
              sweep := some { seen with requeued := w.requeued + 1 } }) ∧
          (r.state = .agreed ∨ r.state = .holdover → breach → s.lineIsUp r.line = false →
            exec .sweepVisit s = .next { s.requeue h .profile with
              sweep := some { seen with parked := w.parked + 1 } }) ∧
          (r.state = .negotiating → exec .sweepVisit s =
            .next { s.putRecord h { r with attempt := r.attempt.map fun a : Attempt => { a with rerun := true } } with
              sweep := some { seen with rerun := w.rerun + 1 } }))) ∧
    (256 ≤ w.cursor → exec .commitSweepEnd s = .next { s with
      sweep := none
      port := { s.port with
        res := Vector.ofFn fun i : Fin 8 =>
          [wordOf w.visited, wordOf w.requeued, wordOf w.parked, wordOf w.rerun].getD i.val 0
        go := false
        status := 0 }
      flags := { s.flags with commandDone := true } })) ∧
  (∀ (p : Profile) (k : Step), nonCompliant p k = true ↔
    StepSet.has p.offerMask k = false ∨ k < p.floor ∨ p.cap < k)

/-- A sweep that is not interrupted leaves no agreement under its profile that the new content does not comply with (R37 to R40). -/
def Obligations.SweepLeavesNoBreach : Prop :=
  ∀ (s : State) (w : Sweep), s.running = true → s.sweep = some w → w.cursor = 0 →
    let t := (State.after .sweepVisit)^[256] s
    (∃ v ∈ t.sweep, v.profile = w.profile ∧ v.cursor = 256) ∧
    t.profiles = s.profiles ∧
    ∀ h : Handle, ∀ r ∈ t.record? h, r.profile = w.profile → r.state = .agreed ∨ r.state = .holdover →
      ∀ k ∈ r.agreed, nonCompliant (s.profileOf w.profile) k = false

/-- LADDER_WRITE tests the new rung in the order of Table 4-2 and writes it alone; a refusal names the test (R45). LADDER_READ
returns one rung and the VALID profiles that name the ladder (R46). -/
def Obligations.LadderCommands : Prop :=
  (∀ (s : State) (l : Fin 4) (k : Step) (rise fall : BitVec 8), s.ready →
    let c := Instr.ladderWrite (wordOf l.val) (stepWord (some k)) (rise.setWidth 16) (fall.setWidth 16)
    let args := [wordOf l.val, stepWord (some k), rise.setWidth 16, fall.setWidth 16]
    let below := fun (f : Rung → BitVec 8) (v : BitVec 8) =>
      ∀ j : Step, j.val + 1 = k.val → (f s.ladders[l][j]).toNat ≤ v.toNat
    let above := fun (f : Rung → BitVec 8) (v : BitVec 8) =>
      ∀ j : Step, k.val + 1 = j.val → v.toNat ≤ (f s.ladders[l][j]).toNat
    let test : Fin 5 → Prop := fun i => match i with
      | 0 => fall.toNat ≤ rise.toNat
      | 1 => below Rung.rise rise
      | 2 => above Rung.rise rise
      | 3 => below Rung.fall fall
      | 4 => above Rung.fall fall
    (∀ i : Fin 5, (∀ j < i, test j) → ¬test i →
      exec c s = .next (s.answered 0x18 args .badArg [wordOf (i.val + 1)])) ∧
    ((∀ i, test i) → ∃ ladders : Vector Ladder 4,
      exec c s = .next ({ s with ladders := ladders }.answered 0x18 args .ok []) ∧
      ∀ (m : Fin 4) (j : Step), ladders[m][j] =
        if m = l ∧ j = k then { rise := rise, fall := fall } else s.ladders[m][j])) ∧
  (∀ (s : State) (l : Fin 4) (k : Step), s.ready →
    ∃ users : Word, (∀ n : Fin 16, users.getLsbD n = true ↔ ∃ p ∈ s.profiles[n], p.ladder = l) ∧
      exec (.ladderRead (wordOf l.val) (stepWord (some k))) s =
        .next (s.answered 0x19 [wordOf l.val, stepWord (some k)] .ok
          [s.ladders[l][k].rise.setWidth 16, s.ladders[l][k].fall.setWidth 16, users]))

/-! ### Host commands of the lines -/

/-- LINE_CONFIG sets the four configuration fields of one line together, after its checks in order (R75). LINE_ACK removes the named
kinds from one line change set and returns what is left (R78). -/
def Obligations.LineConfigAndLineAck : Prop :=
  (∀ (s : State) (l : LineId) (quota keepalive : Nat) (mode : Fin 2) (p : Fin 16), s.ready →
    quota ≤ 64 → 1 ≤ keepalive → keepalive ≤ 255 →
    let c := Instr.lineConfig (lineWord l) (wordOf quota) (wordOf mode.val) (wordOf p.val) (wordOf keepalive)
    let args := [lineWord l, wordOf quota, wordOf mode.val, wordOf p.val, wordOf keepalive]
    (s.isValid p = false → exec c s = .next (s.answered 0x20 args .badArg [])) ∧
    (s.isValid p = true → quota < s.liveCount l →
      exec c s = .next (s.answered 0x20 args .inUse [wordOf (s.liveCount l)])) ∧
    (s.isValid p = true → s.liveCount l ≤ quota →
      exec c s = .next ((s.modLine l fun ln => { ln with
        quota := quota, keepalive := keepalive, defaultProfile := p
        mode := if mode = 0 then .closed else .opened }).answered 0x20 args .ok [wordOf (s.liveCount l)]))) ∧
  (∀ (s : State) (l : LineId) (kinds : BitVec 5), s.ready →
    ∃ left : BitVec 5, (∀ i : Fin 5, left.getLsbD i = (s.lines[l].changes.getLsbD i && !kinds.getLsbD i)) ∧
      exec (.lineAck (lineWord l) (kinds.setWidth 16)) s =
        .next ((s.modLine l fun ln => { ln with changes := left }).answered 0x23
          [lineWord l, kinds.setWidth 16] .ok [left.setWidth 16]))

/-- LINE_READ reports a line in the places of Table 13-10 and changes nothing (R76, R174). -/
def Obligations.LineReadReportsALine : Prop :=
  ∀ (s : State) (l : LineId), s.ready → s.lines[l].Ok → s.liveCount l ≤ 64 →
    ∃ t, exec (.lineRead (lineWord l)) s = .next t ∧
      (∃ res, t = s.answered 0x21 [lineWord l] .ok res) ∧
      t.port.res[0].extractLsb' 0 2 = s.lines[l].state.code ∧
      (t.port.res[0].extractLsb' 4 4).toNat = s.lines[l].ceiling.val + 1 ∧
      (t.port.res[0].getLsbD 8 = true ↔ s.lines[l].mode = .opened) ∧
      (t.port.res[0].extractLsb' 12 4).toNat = s.lines[l].defaultProfile.val ∧
      (t.port.res[1].extractLsb' 0 7).toNat = s.lines[l].quota ∧
      (t.port.res[1].extractLsb' 8 8).toNat = s.lines[l].keepalive ∧
      t.port.res[2].getLsbD 15 = s.lines[l].silence.isSome ∧
      (t.port.res[2].extractLsb' 0 4).toNat = s.lines[l].badRun ∧
      t.port.res[3].toNat = s.liveCount l ∧
      t.port.res[4] = s.lines[l].changes.setWidth 16 ∧
      t.port.res[5].toNat = s.lines[l].txQueue.length ∧ t.port.res[6] = 0 ∧ t.port.res[7] = 0

/-! ### The line and its frames -/

/-- A valid frame that moves no records moves the line as Table 5-5 gives, clears the run and restarts the silence timer, and
changes nothing else (R64 to R67): ALIVE, LINE DOWN on a line that is not UP, and LINE UP on an UP line with no lower ceiling. A
malformed frame that does not complete a run of eight on a DOWN or UP line raises the run up to 8 and does nothing else; the
eighth on a DOWN line loses the line (R63). -/
def Obligations.LineFramesThatMoveNoRecord : Prop :=
  (∀ (s : State) (l : LineId), s.hears l = true →
    (∀ st, s.lines[l].state = st → exec (.alive l) s = .next (s.modLine l (lineAfterFrame
      (if st = .absent ∨ st = .lost then .down else st) s.now))) ∧
    (s.lines[l].state ≠ .up → exec (.lineDown l) s = .next (s.modLine l (lineAfterFrame .down s.now))) ∧
    (∀ k : Step, s.lines[l].state = .up → s.lines[l].ceiling ≤ k →
      exec (.lineUp l k) s = .next (s.modLine l fun ln =>
        let ln1 := lineAfterFrame .up s.now ln
        { ln1 with
          ceiling := k
          changes := if ln.ceiling = k then ln1.changes else ln1.changes ||| lineKindCeiling }))) ∧
  (∀ (s : State) (l : LineId), s.hears l = true →
    (s.lines[l].badRun ≠ 7 ∨ s.lines[l].state = .absent ∨ s.lines[l].state = .lost →
      exec (.malformedFrame l) s =
        .next (s.modLine l fun ln => { ln with badRun := min (ln.badRun + 1) 8 })) ∧
    (s.lines[l].badRun = 7 → s.lines[l].state = .down →
      exec (.malformedFrame l) s = .next (s.modLine l fun ln => { ln with
        state := .lost, silence := none, badRun := 8
        changes := ln.changes ||| lineKindState ||| lineKindFault })))

/-- A line leaves UP by LINE DOWN, by its silence timer, by the eighth bad frame, or by LINE_RESET in any state: the line record
changes first, and its records are treated after (R63, R65, R66, R68, R77). The silence expiry does not occur while the timer is
stopped, nor before the accuracy of R10 lets it, as after a frame that has restarted the timer (R65); that this first moment is
counted in whole ms is the model's choice (log 3). -/
def Obligations.LineLeavesUpByFourEvents : Prop :=
  ∀ (s : State) (l : LineId), s.running = true →
    (s.hears l = true → s.lines[l].state = .up →
      exec (.lineDown l) s = .next ((s.modLine l (lineAfterFrame .down s.now)).lineLeavesUp l)) ∧
    (∀ tm, s.lines[l].silence = some tm →
      let first := max tm.start (tm.start + tm.duration - if tm.duration = 0 then 0 else 1 + tm.duration / 1000)
      (s.now < first → exec (.silenceExpiry l) s = .next s) ∧
      (first ≤ s.now → s.lines[l].state = .up →
        exec (.silenceExpiry l) s = .next ((s.modLine l fun ln => { ln with
          state := .lost, silence := none
          changes := ln.changes ||| lineKindState ||| lineKindFault }).lineLeavesUp l)) ∧
      (first ≤ s.now → s.lines[l].state = .down →
        exec (.silenceExpiry l) s = .next (s.modLine l fun ln => { ln with
          state := .lost, silence := none
          changes := ln.changes ||| lineKindState ||| lineKindFault }))) ∧
    (s.lines[l].silence = none → exec (.silenceExpiry l) s = .next s) ∧
    (s.hears l = true → s.lines[l].state = .up → s.lines[l].badRun = 7 →
      exec (.malformedFrame l) s = .next ((s.modLine l fun ln => { ln with
        state := .lost, silence := none, badRun := 8
        changes := ln.changes ||| lineKindState ||| lineKindFault }).lineLeavesUp l)) ∧
    (s.port.go = false → exec (.lineReset (lineWord l)) s =
      .next (((s.modLine l fun ln => { lineAfterFrame .down s.now ln with txQueue := [.reset] }).lineLeavesUp
        l).answered 0x22 [lineWord l] .ok [s.lines[l].state.code.setWidth 16]))

/-- The treatment of a line leaving UP, record by record (Table 7-4), with the grant freed and the queue emptied; nothing else
changes (R115, R116). -/
def Obligations.TreatmentOfALineLeavingUp : Prop :=
  ∀ (s : State) (l : LineId),
    let t := s.lineLeavesUp l
    t = { s with slots := t.slots, arbiters := t.arbiters } ∧
    (∀ k : LineId, t.arbiters[k] =
      if k = l then { grant := none, urgent := [], normal := [] } else s.arbiters[k]) ∧
    ∀ h : Handle,
      t.slots[h].epoch = s.slots[h].epoch ∧
      (∀ r, s.record? h = some r → r.line ≠ l ∨ r.state = .holdover ∨ r.state = .parked ∨
        r.state = .failed ∨ r.state = .retiring → t.slots[h] = s.slots[h]) ∧
      (s.record? h = none → t.slots[h] = s.slots[h]) ∧
      ∀ r, s.record? h = some r → r.line = l →
        let p := s.profileOf r.profile
        let rate := if r.agreed.isSome then kindRate else 0
        (r.state = .negotiating → t.record? h = some { r with
          state := .parked, attempt := none, timer := none, agreed := none
          generation := if r.agreed.isSome then r.generation + 1 else r.generation
          changes := recorded r.changes (rate ||| kindState) p }) ∧
        (r.state = .waiting → t.record? h = some { r with
          state := .parked, agreed := none
          generation := if r.agreed.isSome then r.generation + 1 else r.generation
          changes := recorded r.changes (rate ||| kindState) p }) ∧
        (r.state = .backoff → t.record? h = some { r with
          state := .parked, timer := none, changes := recorded r.changes kindState p }) ∧
        (r.state = .agreed → t.record? h = some { r with
          state := .holdover, carrier := .down, changes := recorded r.changes kindState p
          timer := some { start := s.now, duration := 10 * p.holdoverTime } })

/-- LINE UP on a line that is not UP queues its PARKED records in ascending handle order with cause LINE_UP and hands out the grant;
a lower ceiling on an UP line treats the records above it (R66 to R68, R104, R118). One record at a lowered line ceiling, by its
state (R104, Table 6-9). -/
def Obligations.LineUpQueuesOrLowers : Prop :=
  (∀ (s : State) (l : LineId) (k : Step), s.hears l = true →
    let s1 := s.modLine l fun ln =>
      let ln1 := lineAfterFrame .up s.now ln
      { ln1 with
        ceiling := k
        changes := if ln.ceiling = k then ln1.changes else ln1.changes ||| lineKindCeiling }
    (s.lines[l].state ≠ .up → ∃ t : State, exec (.lineUp l k) s = .next (t.handOut l) ∧
      t = { s1 with slots := t.slots, arbiters := t.arbiters } ∧
      (∀ j : LineId, j ≠ l → t.arbiters[j] = s.arbiters[j]) ∧
      t.arbiters[l] = { s.arbiters[l] with
        normal := s.arbiters[l].normal ++
          (List.finRange 256).filter fun h => decide (∃ r ∈ s.record? h, r.line = l ∧ r.state = .parked) } ∧
      ∀ h : Handle,
        (¬(∃ r ∈ s.record? h, r.line = l ∧ r.state = .parked) → t.slots[h] = s.slots[h]) ∧
        ∀ r, s.record? h = some r → r.line = l → r.state = .parked →
          t.slots[h].epoch = s.slots[h].epoch ∧
          t.record? h = some { r with
            state := .waiting, cause := some .lineUp, timer := none
            changes := recorded r.changes kindState (s.profileOf r.profile) }) ∧
    (s.lines[l].state = .up → k < s.lines[l].ceiling →
      exec (.lineUp l k) s = .next ((s1.forHandles fun h u => u.ceilingVisit l k h).handOut l))) ∧
  (∀ (s : State) (l : LineId) (c : Step) (h : Handle),
    (∀ r k, s.record? h = some r → r.line = l → r.agreed = some k → c < k →
      (r.state = .agreed ∨ r.state = .holdover → s.ceilingVisit l c h = s.requeue h .lineCeiling) ∧
      (r.state = .waiting → h ∈ s.arbiters[l].normal → s.ceilingVisit l c h =
        (s.putRecord h { r with cause := some .lineCeiling }).modArbiter l fun a =>
          { a with urgent := a.urgent ++ [h], normal := a.normal.filter (· ≠ h) }) ∧
      (r.state = .waiting → h ∉ s.arbiters[l].normal → s.ceilingVisit l c h = s) ∧
      (r.state = .negotiating ∨ r.state = .parked ∨ r.state = .backoff ∨ r.state = .failed ∨
        r.state = .retiring → s.ceilingVisit l c h = s)) ∧
    ((∀ r k, s.record? h = some r → r.line = l → r.agreed = some k → k ≤ c) → s.ceilingVisit l c h = s))

/-- The transmit lane: a frame handed to a line joins its queue while it has room, and is dropped with FAULT recorded when it is
full; the link begins the frame at the head and sends the next when it has completed one (R74). That the next frame begins in
the event that completes the one before is the model's choice (log 9). A transmit lane in bit times: the five bytes of the frame
in transmission, or the nine of the answer in hand, go out without gaps, each bit time drives the level that is next, and the
last one is the completion of the frame or the end of the answer; otherwise the lane is high, and a report link begins a queued
frame (R74, R137, R171, R172). -/
def Obligations.TransmitLaneSendsInOrder : Prop :=
  (∀ (s : State) (l : LineId),
    (∀ f, s.lines[l].txQueue.length < 128 →
      s.sendDown l f = s.modLine l fun ln => { ln with txQueue := ln.txQueue ++ [f] }) ∧
    (∀ f, 128 ≤ s.lines[l].txQueue.length →
      s.sendDown l f = s.modLine l fun ln => { ln with changes := ln.changes ||| lineKindFault }) ∧
    (s.running = true → ∀ f rest, s.lines[l].txQueue = f :: rest →
      (s.lines[l].sending = none → exec (.frameTransmission l) s =
        .next (s.modLine l fun ln => { ln with sending := some f, txSent := 0, txQueue := rest })) ∧
      (s.lines[l].sending ≠ none → exec (.frameTransmissionComplete l) s =
        .next (s.modLine l fun ln => { ln with sending := some f, txSent := 0, txQueue := rest }))) ∧
    (s.running = true → s.lines[l].txQueue = [] → s.lines[l].sending ≠ none →
      exec (.frameTransmissionComplete l) s = .next (s.modLine l fun ln => { ln with sending := none, txSent := 0 }))) ∧
  (∀ s : State, s.running = true →
    (∀ (l : LineId) (f : DownFrame), s.lines[l].sending = some f →
      (s.lines[l].txSent < 50 → (laneLevels f.bytes)[s.lines[l].txSent]? = some (s.reportTx l)) ∧
      (∀ n < 50, s.lines[l].txSent = 0 → s.reportTxNexts l n = .next (s.modLine l fun ln => { ln with txSent := n })) ∧
      (s.lines[l].txSent = 0 → s.reportTxNexts l 50 = exec (.frameTransmissionComplete l) s)) ∧
    (∀ l : LineId, s.lines[l].sending = none →
      s.reportTx l = true ∧ s.reportTxNext l = exec (.frameTransmission l) s) ∧
    (∀ a : Answer, s.lookup.answer = some a →
      (s.lookup.txSent < 90 → (laneLevels a.bytes)[s.lookup.txSent]? = some s.lookupTx) ∧
      (∀ n < 90, s.lookup.txSent = 0 → s.lookupTxNexts n = .next { s with lookup := { s.lookup with txSent := n } }) ∧
      (s.lookup.txSent = 0 → s.lookupTxNexts 90 = exec .answerSent s)) ∧
    (s.lookup.answer = none → s.lookupTx = true ∧ s.lookupTxNext = .next s))

/-! ### Station frames -/

/-- CAPABILITY from a station with no live record: refused with ABANDON and UNKNOWN on a CLOSED line, over quota or without a slot,
and otherwise a line-born record under the default profile (R18, R19, R71). OUTCOME, CONFIRM, CARRIER and QUALITY for a station
without a live record record UNKNOWN; OUTCOME and CONFIRM for a record that is not in the matching phase record STRAY; neither
does anything else (R70 to R72). -/
def Obligations.FramesWithoutTheirRecord : Prop :=
  (∀ (s : State) (l : LineId) (st : Station) (mask : StepSet), s.hears l = true → ¬s.keyLive l st →
    let u := s.heardFrame l
    let refused := fun v : State => Host.Outcome.next (φ := Fault) (ρ := Refusal)
      ((v.sendDown l (.abandon st)).modLine l fun ln => { ln with changes := ln.changes ||| lineKindUnknown })
    (s.lines[l].mode = .closed → exec (.capability l st mask) s = refused u) ∧
    (s.lines[l].mode = .opened → s.lines[l].quota ≤ s.liveCount l →
      exec (.capability l st mask) s = refused u) ∧
    (s.lines[l].mode = .opened → s.liveCount l < s.lines[l].quota →
      (∀ h : Handle, s.slots[h].body.isLive = true) →
      exec (.capability l st mask) s = refused u.setTableFull) ∧
    (∀ h : Handle, s.lines[l].mode = .opened → s.liveCount l < s.lines[l].quota → s.chooses h →
      exec (.capability l st mask) s = .next ((u.created h (createdRecord l st s.lines[l].defaultProfile
        (some mask) (if s.lineIsUp l then .waiting else .parked) .remote
        (recorded 0 (kindState ||| kindRemote) (s.profileOf s.lines[l].defaultProfile)))).handOut l))) ∧
  (∀ (s : State) (l : LineId) (st : Station), s.hears l = true →
    let u := s.heardFrame l
    let noted := fun kind : BitVec 5 => Host.Outcome.next (φ := Fault) (ρ := Refusal)
      (u.modLine l fun ln => { ln with changes := ln.changes ||| kind })
    (¬s.keyLive l st →
      (∀ w, exec (.outcome l st w) s = noted lineKindUnknown) ∧
      (∀ k, exec (.confirm l st k) s = noted lineKindUnknown) ∧
      (∀ c, exec (.carrier l st c) s = noted lineKindUnknown) ∧
      (∀ v, exec (.quality l st v) s = noted lineKindUnknown)) ∧
    (∀ (h : Handle) (r : Record), s.KeysUnique → s.hasRecord h r l st →
      (r.inOffered = false → ∀ w, exec (.outcome l st w) s = noted lineKindStray) ∧
      (r.inOrdered = false → ∀ k, exec (.confirm l st k) s = noted lineKindStray)))

/-- CAPABILITY for the grant holder in phase OFFERED: the highest common step is ordered, or the attempt is abandoned with NO_COMMON
(R88). What a CAPABILITY does to the remote mask and to a step the new mask excludes (R8, R20, R88 items 1 and 2). CAPABILITY
for the grant holder in phase ORDERED goes on or fails with PROTOCOL (R92), and a remote-initiated CAPABILITY acts by the state
of its record (R102). -/
def Obligations.CapabilityByRecord : Prop :=
  (∀ (s : State) (l : LineId) (st : Station) (mask : StepSet) (h : Handle) (r : Record) (a : Attempt),
    s.hears l = true → s.KeysUnique → s.hasRecord h r l st → r.state = .negotiating →
    r.attempt = some a → a.phase = .offered →
    let p := s.profileOf r.profile
    let u := s.heardFrame l
    let r1 := Record.takeMask p mask r
    let common := fun k : Step => StepSet.has a.offer k = true ∧ StepSet.has mask k = true
    (∀ k, common k → (∀ j, common j → j ≤ k) → exec (.capability l st mask) s =
      .next ((u.putRecord h { r1 with
        attempt := some { a with phase := .ordered k }
        timer := some { start := s.now, duration := 10 * p.confirmTimeout } }).sendDown l (.order st k))) ∧
    ((∀ k, ¬common k) → exec (.capability l st mask) s =
      .next ((((u.putRecord h r1).sendDown l (.abandon st)).failAttempt h .noCommon).handOut l))) ∧
  (∀ (p : Profile) (mask : StepSet) (r : Record),
    let kept := ∀ k ∈ r.agreed, StepSet.has mask k = true
    let remote := if r.remoteMask = some mask then 0 else kindRemote
    (kept → Record.takeMask p mask r =
      { r with remoteMask := some mask, changes := recorded r.changes remote p }) ∧
    (¬kept → Record.takeMask p mask r =
      { r with
        remoteMask := some mask, agreed := none, generation := r.generation + 1
        changes := recorded r.changes (remote ||| kindRate) p })) ∧
  (∀ (s : State) (l : LineId) (st : Station) (mask : StepSet) (h : Handle) (r : Record),
    s.hears l = true → s.KeysUnique → s.hasRecord h r l st →
    let p := s.profileOf r.profile
    let u := s.heardFrame l
    let r1 := Record.takeMask p mask r
    (∀ k, r.state = .negotiating → r.orderedStep = some k → StepSet.has mask k = true →
      exec (.capability l st mask) s = .next (u.putRecord h r1)) ∧
    (∀ k, r.state = .negotiating → r.orderedStep = some k → StepSet.has mask k = false →
      exec (.capability l st mask) s =
        .next ((((u.putRecord h r1).sendDown l (.abandon st)).failAttempt h .protocol).handOut l)) ∧
    (r.state = .agreed → exec (.capability l st mask) s =
      .next (((u.putRecord h r1).requeue h .remote).handOut l)) ∧
    (r.state = .holdover → exec (.capability l st mask) s =
      .next (((u.putRecord h { r1 with
        state := .agreed, carrier := .up, timer := none
        changes := recorded r1.changes kindState p }).requeue h .remote).handOut l)) ∧
    (r.state = .waiting ∨ r.state = .backoff → exec (.capability l st mask) s = .next (u.putRecord h r1)) ∧
    (r.state = .failed ∨ r.state = .retiring ∨ r.state = .parked →
      exec (.capability l st mask) s = .next (u.sendDown l (.abandon st))))

/-- OUTCOME in phase OFFERED fails the attempt without ABANDON; CONFIRM in phase ORDERED gives success at the ordered step and
failure with PROTOCOL at another (R89, R91, R95). -/
def Obligations.OutcomeAndConfirmEndAttempts : Prop :=
  ∀ (s : State) (l : LineId) (st : Station) (h : Handle) (r : Record),
    s.hears l = true → s.KeysUnique → s.hasRecord h r l st → r.state = .negotiating →
    let p := s.profileOf r.profile
    let u := s.heardFrame l
    (r.inOffered = true →
      exec (.outcome l st .refused) s = .next ((u.failAttempt h .refused).handOut l) ∧
      exec (.outcome l st .noResponse) s = .next ((u.failAttempt h .noResponse).handOut l)) ∧
    (∀ k, r.orderedStep = some k →
      let same := decide (r.agreed = some k)
      exec (.confirm l st k) s = .next (((((u.releaseGrant l).putRecord h { r with
        state := .agreed, attempt := none, cause := none, timer := none, attempts := 0, carrier := .up
        forwardBlocked := false, agreed := some k
        generation := if same then r.generation else r.generation + 1
        changes := recorded r.changes ((if same then 0 else kindRate) ||| kindState) p }).postCheck h)).handOut l) ∧
      ∀ j, j ≠ k → exec (.confirm l st j) s =
        .next (((u.sendDown l (.abandon st)).failAttempt h .protocol).handOut l))

/-- CARRIER frames by record state (R109, R110, R112, R90, Table 7-1). -/
def Obligations.CarrierByState : Prop :=
  ∀ (s : State) (l : LineId) (st : Station) (h : Handle) (r : Record),
    s.hears l = true → s.KeysUnique → s.hasRecord h r l st →
    let p := s.profileOf r.profile
    let u := s.heardFrame l
    let down := u.putRecord h { r with carrier := .down }
    (r.state = .agreed → exec (.carrier l st .down) s = .next (u.putRecord h { r with
      state := .holdover, carrier := .down, changes := recorded r.changes kindState p
      timer := some { start := s.now, duration := 10 * p.holdoverTime } })) ∧
    (r.state = .holdover → exec (.carrier l st .down) s = .next u) ∧
    (r.state = .negotiating → exec (.carrier l st .down) s =
      .next (((down.sendDown l (.abandon st)).failAttempt h .noCarrier).handOut l)) ∧
    (r.state ≠ .agreed → r.state ≠ .holdover → r.state ≠ .negotiating →
      exec (.carrier l st .down) s = .next down) ∧
    (r.state = .holdover → exec (.carrier l st .up) s = .next (u.putRecord h { r with
      state := .agreed, carrier := .up, timer := none, changes := recorded r.changes kindState p })) ∧
    (r.state ≠ .holdover → exec (.carrier l st .up) s = .next (u.putRecord h { r with carrier := .up }))

/-! ### Quality -/

/-- A ladder's answer to a value is the highest step whose threshold the value reaches, or none (R49 to R51). A sample judged
against the ceiling held before it: the rise, the fall and the counts, CEILING on a change and forward blocked cleared by a fall
(R49 to R52), for a ladder that meets its constraints. -/
def Obligations.SamplesMoveTheCeiling : Prop :=
  (∀ (ladder : Ladder) (v : BitVec 8),
    (∀ k, ladder.riseCeiling v = some k ↔ ladder[k].rise.toNat ≤ v.toNat ∧
      ∀ j : Step, k < j → v.toNat < ladder[j].rise.toNat) ∧
    (ladder.riseCeiling v = none ↔ ∀ j : Step, v.toNat < ladder[j].rise.toNat) ∧
    (∀ k, ladder.fallCeiling v = some k ↔ ladder[k].fall.toNat ≤ v.toNat ∧
      ∀ j : Step, k < j → v.toNat < ladder[j].fall.toNat) ∧
    (ladder.fallCeiling v = none ↔ ∀ j : Step, v.toNat < ladder[j].fall.toNat)) ∧
  (∀ (p : Profile) (ladder : Ladder) (v : BitVec 8) (r : Record), Ladder.Ok ladder →
    (r.quality = none → Record.sample p ladder v r = { r with
      quality := some { value := v, ceiling := ladder.riseCeiling v }, riseCount := 0, fallCount := 0
      changes := recorded r.changes kindCeiling p }) ∧
    ∀ q, r.quality = some q →
      let up := ∃ k : Step, stepCode q.ceiling = k.val ∧ ladder[k].rise.toNat ≤ v.toNat
      let down := ∃ k ∈ q.ceiling, v.toNat < ladder[k].fall.toNat
      ¬(up ∧ down) ∧
      (up → r.riseCount + 1 < p.riseSamples → Record.sample p ladder v r = { r with
        quality := some { q with value := v }, riseCount := r.riseCount + 1, fallCount := 0 }) ∧
      (up → p.riseSamples ≤ r.riseCount + 1 → Record.sample p ladder v r = { r with
        quality := some { value := v, ceiling := ladder.riseCeiling v }, riseCount := 0, fallCount := 0
        changes := recorded r.changes kindCeiling p }) ∧
      (down → r.fallCount + 1 < p.fallSamples → Record.sample p ladder v r = { r with
        quality := some { q with value := v }, riseCount := 0, fallCount := r.fallCount + 1 }) ∧
      (down → p.fallSamples ≤ r.fallCount + 1 → Record.sample p ladder v r = { r with
        quality := some { value := v, ceiling := ladder.fallCeiling v }, riseCount := 0, fallCount := 0
        forwardBlocked := false, changes := recorded r.changes kindCeiling p }) ∧
      (¬up → ¬down → Record.sample p ladder v r = { r with
        quality := some { q with value := v }, riseCount := 0, fallCount := 0 }))

/-- QUALITY is taken or discarded by record state; a changed ceiling makes an AGREED record fall back, or move forward when it did
not fall, and moves a WAITING record to the urgent class, and moves nothing else (R48, R54 to R57). -/
def Obligations.QualityByState : Prop :=
  ∀ (s : State) (l : LineId) (st : Station) (v : BitVec 8) (h : Handle) (r : Record),
    s.hears l = true → s.KeysUnique → s.hasRecord h r l st →
    let p := s.profileOf r.profile
    let u := s.heardFrame l
    let r1 := Record.sample p s.ladders[p.ladder] v r
    let u1 := u.putRecord h r1
    let changed := r.quality.map Quality.ceiling ≠ r1.quality.map Quality.ceiling
    let below := ∃ q ∈ r1.quality, ∃ k ∈ r.agreed, stepCode q.ceiling < k.val + 1
    let above := ∃ q ∈ r1.quality, ∃ k ∈ r.agreed, k.val + 1 < stepCode q.ceiling
    let fell := ∃ q0 ∈ r.quality, ∃ q1 ∈ r1.quality, stepCode q1.ceiling < stepCode q0.ceiling
    let better := ∃ k ∈ r.agreed, ∃ j : Step, k < j ∧ (∃ m ∈ r.remoteMask, StepSet.has m j = true) ∧
      StepSet.has (computeOffer p r.capOverride s.lines[l].ceiling r1.quality) j = true
    (r.state = .parked ∨ r.state = .failed ∨ r.state = .retiring →
      exec (.quality l st v) s = .next u) ∧
    (r.state = .agreed → changed → below →
      exec (.quality l st v) s = .next ((u1.requeue h .qualityDown).handOut l)) ∧
    (r.state = .agreed → changed → ¬fell → above → p.forwardEn = true → r1.forwardBlocked = false → better →
      s.lineIsUp l = true → exec (.quality l st v) s = .next ((u1.requeue h .qualityUp).handOut l)) ∧
    (r.state = .waiting → changed → below → h ∈ s.arbiters[l].normal →
      exec (.quality l st v) s = .next ((u1.classMove h .qualityDown).handOut l)) ∧
    (r.state = .agreed ∨ r.state = .waiting ∨ r.state = .holdover ∨ r.state = .negotiating ∨
        r.state = .backoff → ¬changed → exec (.quality l st v) s = .next u1) ∧
    ((r.state = .agreed ∧ ¬below ∧ (fell ∨ ¬(above ∧ p.forwardEn = true ∧ r1.forwardBlocked = false ∧
          better ∧ s.lineIsUp l = true))) ∨
        (r.state = .waiting ∧ ¬(below ∧ h ∈ s.arbiters[l].normal)) ∨
        r.state = .holdover ∨ r.state = .negotiating ∨ r.state = .backoff → changed →
      exec (.quality l st v) s = .next (u1.handOut l))

/-! ### Negotiation -/

/-- A record moved toward WAITING: on an UP line it joins the tail of the class its cause gives and keeps its agreement, on another
line it is PARKED without it (R82, R40, R54). The post-agreement check compares the agreed step with the line ceiling, the
quality ceiling and the cap override, and the profile, in this order (R96). -/
def Obligations.RequeueAndPostAgreementCheck : Prop :=
  (∀ (s : State) (h : Handle) (c : Cause) (r : Record), s.record? h = some r →
    let p := s.profileOf r.profile
    let rate := if r.agreed.isSome then kindRate else 0
    let waiting := s.putRecord h { r with
      state := .waiting, cause := some c, timer := none, changes := recorded r.changes kindState p }
    (s.lines[r.line].state = .up → c = .qualityDown ∨ c = .lineCeiling → s.requeue h c =
      waiting.modArbiter r.line fun a => { a with urgent := a.urgent ++ [h] }) ∧
    (s.lines[r.line].state = .up → c ≠ .qualityDown → c ≠ .lineCeiling → s.requeue h c =
      waiting.modArbiter r.line fun a => { a with normal := a.normal ++ [h] }) ∧
    (s.lines[r.line].state ≠ .up → s.requeue h c = s.putRecord h { r with
      state := .parked, cause := some c, timer := none, agreed := none
      generation := if r.agreed.isSome then r.generation + 1 else r.generation
      changes := recorded r.changes (rate ||| kindState) p })) ∧
  (∀ (s : State) (h : Handle) (r : Record) (k : Step), s.record? h = some r → r.agreed = some k →
    let line := s.lines[r.line].ceiling < k
    let quality := (∃ q ∈ r.quality, ∀ c ∈ q.ceiling, c < k) ∨ (∃ o ∈ r.capOverride, o < k)
    let profile := nonCompliant (s.profileOf r.profile) k = true
    (line → s.postCheck h = s.requeue h .lineCeiling) ∧
    (¬line → quality → s.postCheck h = s.requeue h .qualityDown) ∧
    (¬line → ¬quality → profile → s.postCheck h = s.requeue h .profile) ∧
    (¬line → ¬quality → ¬profile → s.postCheck h = s))

/-- The offer computed at the grant (R85, R53). The hand-out gives the grant to the head of the urgent class, else of the normal
class, and starts its attempt: an empty offer fails at once, another is sent with the negotiation timer running (R83, R87). It
does nothing while the grant is held, the line is not UP or the queue is empty. -/
def Obligations.GrantStartsAnAttempt : Prop :=
  (∀ (p : Profile) (override : Option Step) (ceiling : Step) (q : Option Quality) (k : Step),
    StepSet.has (computeOffer p override ceiling q) k = true ↔
      StepSet.has p.offerMask k = true ∧ p.floor ≤ k ∧ k ≤ p.cap ∧ k ≤ ceiling ∧
      (∀ o ∈ override, k ≤ o) ∧ (∀ x ∈ q, ∃ c ∈ x.ceiling, k ≤ c)) ∧
  (∀ (s : State) (l : LineId),
    (s.arbiters[l].grant ≠ none ∨ s.lineIsUp l = false ∨
      (s.arbiters[l].urgent = [] ∧ s.arbiters[l].normal = []) → s.handOut l = s) ∧
    (∀ (h : Handle) (urgent normal : List Handle) (r : Record),
      s.arbiters[l].grant = none → s.lineIsUp l = true →
      (s.arbiters[l].urgent = h :: urgent ∧ s.arbiters[l].normal = normal) ∨
        (s.arbiters[l].urgent = [] ∧ urgent = [] ∧ s.arbiters[l].normal = h :: normal) →
      s.record? h = some r → r.line = l →
      let p := s.profileOf r.profile
      let offer := computeOffer p r.capOverride s.lines[l].ceiling r.quality
      (offer ≠ 0 → s.handOut l =
        ((s.putRecord h { r with
          state := .negotiating, attempt := some { phase := .offered, offer := offer, rerun := false }
          changes := recorded r.changes kindState p
          timer := some { start := s.now, duration := 10 * p.negTimeout } }).modArbiter l fun _ =>
            { grant := some h, urgent := urgent, normal := normal }).sendDown l (.negotiate r.station offer)) ∧
      (offer = 0 →
        let u := ((s.putRecord h { r with
          state := .negotiating, changes := recorded r.changes kindState p }).modArbiter l fun _ =>
            { grant := some h, urgent := urgent, normal := normal }).failAttempt h .noCommon
        u.lines = s.lines ∧ s.handOut l = u.handOut l)))

/-- After a hand-out on an UP line, the grant is held or nobody waits for it (R83): records whose attempts fail at once are all
passed over in the one event. -/
def Obligations.HandOutLeavesNobodyWaiting : Prop :=
  ∀ (s : State) (l : LineId), (s.handOut l).lineIsUp l = true → (s.handOut l).arbiters[l].grant = none →
    (s.handOut l).arbiters[l].urgent = [] ∧ (s.handOut l).arbiters[l].normal = []

/-- A failed attempt frees the grant and places its record: BACKOFF with the time of Table 6-6 or FAILED by the retry limit, or, for
a QUALITY_UP attempt whose agreement stands, back to AGREED or on to HOLDOVER with forward blocked (R97 to R99, R111). An AGREED
record whose carrier is DOWN passes on into HOLDOVER, any other record stays (R111). -/
def Obligations.FailurePlacesTheRecord : Prop :=
  (∀ (s : State) (h : Handle) (w : FailReason) (r : Record), s.record? h = some r →
    let p := s.profileOf r.profile
    let u := s.releaseGrant r.line
    let n := r.attempts + 1
    let rate := if r.agreed.isSome then kindRate else 0
    let lost := { r with
      attempt := none, agreed := none, attempts := n
      generation := if r.agreed.isSome then r.generation + 1 else r.generation
      changes := recorded r.changes (rate ||| kindState) p }
    let kept := { r with
      attempt := none, cause := none, forwardBlocked := true, changes := recorded r.changes kindState p }
    (¬(r.cause = some .qualityUp ∧ r.agreed.isSome = true) → n ≤ p.retryLimit →
      s.failAttempt h w = u.putRecord h { lost with
        state := .backoff
        timer := some { start := s.now, duration := 10 * p.backoffBase * 2 ^ (min n 5 - 1) } }) ∧
    (¬(r.cause = some .qualityUp ∧ r.agreed.isSome = true) → p.retryLimit < n →
      s.failAttempt h w = u.putRecord h { lost with state := .failed, timer := none }) ∧
    (r.cause = some .qualityUp → r.agreed.isSome = true → w = .noCarrier →
      s.failAttempt h w = u.putRecord h { kept with
        state := .holdover, timer := some { start := s.now, duration := 10 * p.holdoverTime } }) ∧
    (r.cause = some .qualityUp → r.agreed.isSome = true → w ≠ .noCarrier →
      s.failAttempt h w =
        (((u.putRecord h { kept with state := .agreed, timer := none }).postCheck h).passToHoldover h))) ∧
  (∀ (s : State) (h : Handle) (r : Record), s.record? h = some r →
    let p := s.profileOf r.profile
    (r.state = .agreed → r.carrier = .down → s.passToHoldover h = s.putRecord h { r with
      state := .holdover, changes := recorded r.changes kindState p
      timer := some { start := s.now, duration := 10 * p.holdoverTime } }) ∧
    (r.state ≠ .agreed ∨ r.carrier ≠ .down → s.passToHoldover h = s))

/-- Each record timer's expiry does what its rule gives, once the accuracy of R10 lets it occur; before that, without a timer, and
under the name of another kind it does not occur (R9, R10, R93, R100, R113, R129, R22). That the first such moment is counted in
whole ms is the model's choice (log 3). -/
def Obligations.RecordTimersExpire : Prop :=
  (∀ (s : State) (h : Handle) (r : Record) (tm : Timer), s.running = true → s.record? h = some r →
    r.timer = some tm →
    max tm.start (tm.start + tm.duration - if tm.duration = 0 then 0 else 1 + tm.duration / 1000) ≤ s.now →
    let p := s.profileOf r.profile
    (r.inOffered = true → exec (.negotiationTimerExpiry h) s =
      .next (((s.sendDown r.line (.abandon r.station)).failAttempt h .timeout).handOut r.line)) ∧
    (r.inOrdered = true → exec (.confirmTimerExpiry h) s =
      .next (((s.sendDown r.line (.abandon r.station)).failAttempt h .timeout).handOut r.line)) ∧
    (∀ k, r.state = .holdover → r.agreed = some k → exec (.holdoverExpiry h) s =
      .next (((s.putRecord h { r with
        agreed := none, generation := r.generation + 1
        changes := recorded r.changes kindRate p }).requeue h .holdoverExpiry).handOut r.line)) ∧
    (∀ c, r.state = .backoff → r.cause = some c →
      exec (.backoffExpiry h) s = .next ((s.requeue h c).handOut r.line)) ∧
    (r.state = .retiring →
      let kinds := recorded r.changes kindRetired p
      exec (.graceExpiry h) s =
        .next (s.setBody h (if kinds = 0 then .free else .vacated r.line r.station kinds)))) ∧
  (∀ (s : State) (h : Handle),
    let early := ∀ r ∈ s.record? h, ∀ tm ∈ r.timer, s.now <
      max tm.start (tm.start + tm.duration - if tm.duration = 0 then 0 else 1 + tm.duration / 1000)
    (early ∨ (∀ r ∈ s.record? h, r.inOffered = false) → exec (.negotiationTimerExpiry h) s = .next s) ∧
    (early ∨ (∀ r ∈ s.record? h, r.inOrdered = false) → exec (.confirmTimerExpiry h) s = .next s) ∧
    (early ∨ (∀ r ∈ s.record? h, r.state ≠ .holdover) → exec (.holdoverExpiry h) s = .next s) ∧
    (early ∨ (∀ r ∈ s.record? h, r.state ≠ .backoff) → exec (.backoffExpiry h) s = .next s) ∧
    (early ∨ (∀ r ∈ s.record? h, r.state ≠ .retiring) → exec (.graceExpiry h) s = .next s))

/-! ### The lookup port -/

/-- An IDLE port takes a query and holds its answer, with the pending overrun indication handed to it (R136, R139 to R142, R123,
R124, R144). -/
def Obligations.QueriesAreAnswered : Prop :=
  ∀ (s : State) (tag : Tag), s.running = true → s.lookup.rxWaitsIdle = false → s.lookup.answer = none →
    let answers := fun (u : State) (status : AnswerStatus) (content : Option AnswerContent) =>
      Host.Outcome.next (φ := Fault) (ρ := Refusal) { u with lookup :=
        { s.lookup with
          answer := some { status := status, tag := tag, overrun := s.lookup.pendingOverrun, content := content }
          pendingOverrun := false } }
    let shown := fun (h : Handle) (e : Epoch) (r : Record) =>
      some { handle := h, epoch := e, state := r.state, agreed := r.agreed
             generation := r.generation, holds := r.holds : AnswerContent }
    exec (.badQuery tag) s = answers s .badQuery none ∧
    (∀ (l : LineId) (st : Station),
      (∀ h r, s.KeysUnique → s.hasRecord h r l st → exec (.lookupFind tag (BitVec.ofNat 4 l.val) st) s =
        answers s .ok (shown h s.slots[h].epoch r)) ∧
      (¬s.keyLive l st → exec (.lookupFind tag (BitVec.ofNat 4 l.val) st) s = answers s .notFound none)) ∧
    (∀ (h : Handle) (e : Epoch),
      let hw := BitVec.ofNat 9 h.val
      ((∀ r, ¬s.names h e r) →
        exec (.peek tag hw e) s = answers s .stale none ∧ exec (.hold tag hw e) s = answers s .stale none ∧
        exec (.release tag hw e) s = answers s .stale none) ∧
      ∀ r, s.names h e r →
        exec (.peek tag hw e) s = answers s .ok (shown h e r) ∧
        (r.state = .retiring → exec (.hold tag hw e) s = answers s .retiring (shown h e r)) ∧
        (r.state ≠ .retiring → r.holds = 15 → exec (.hold tag hw e) s = answers s .holdFull (shown h e r)) ∧
        (r.state ≠ .retiring → r.holds ≠ 15 → exec (.hold tag hw e) s =
          answers (s.putRecord h { r with holds := r.holds + 1 }) .ok
            (shown h e { r with holds := r.holds + 1 })) ∧
        (r.holds = 0 → exec (.release tag hw e) s = answers s .notHeld (shown h e r)) ∧
        (r.holds ≠ 0 → ¬(r.state = .retiring ∧ r.holds = 1) → exec (.release tag hw e) s =
          answers (s.putRecord h { r with holds := r.holds - 1 }) .ok
            (shown h e { r with holds := r.holds - 1 })) ∧
        (r.state = .retiring → r.holds = 1 →
          let kinds := recorded r.changes kindRetired (s.profileOf r.profile)
          exec (.release tag hw e) s =
            answers (s.setBody h (if kinds = 0 then .free else .vacated r.line r.station kinds)) .ok
              (shown h e { r with holds := 0 })))

/-- A line above 7 or a handle above 255 fails test 3 of R140: the query is answered BAD_QUERY and acts on nothing. A query that
finds the port BUSY is discarded and changes nothing but LOOKUP_OVERRUN and the pending indication; the end of the answer makes
the port IDLE (R137, R138). -/
def Obligations.BusyAndBadQueries : Prop :=
  (∀ (s : State) (c : Instr) (tag : Tag), c.wellFormed = false → queryTag? c = some tag →
    exec c s = exec (.badQuery tag) s) ∧
  (∀ (s : State) (a : Answer), s.running = true → s.lookup.answer = some a →
    let discarded := { s with
      lookup := { s.lookup with pendingOverrun := true }
      flags := { s.flags with lookupOverrun := true } }
    exec .queryDiscard s = .next discarded ∧
    (∀ (c : Instr) (tag : Tag), queryTag? c = some tag → s.lookup.rxWaitsIdle = false →
      exec c s = .next discarded) ∧
    exec .answerSent s = .next { s with lookup := { s.lookup with answer := none, txSent := 0 } })

/-! ### Encodings -/

/-- Every upward frame but a malformed one is read back from the bytes of Table 13-3, whatever its operands (R62, R171). One damaged
byte is always found: a frame with one of its five bytes changed is malformed (R62). Every well-formed query is read back from
the bytes of Table 13-4, whatever its operands (R140, R172). The bytes of a downward frame: type, station and payload in the
places of Table 13-2, with the codes of Table 13-3, and the check byte (R171). The bytes of a lookup answer in the places of
Table 13-5, with the check byte; without record content they are zero but for the status, the tag and the overrun bit (R172). A
byte on a lane: ten levels, a low start bit, the data bits with bit 0 first, a high stop bit; bytes follow without gaps (R171). -/
def Obligations.BytesReadBack : Prop :=
  (∀ (c : Instr) (l : LineId) (bytes : List Byte), frameLine? c = some l → upwardBytes c = some bytes →
    bytes.length = 5 ∧ classifyFrame l bytes = c) ∧
  (∀ (c : Instr) (l : LineId) (bytes : List Byte) (i : Fin 5) (b : Byte),
    upwardBytes c = some bytes → bytes[i.val]? ≠ some b → classifyFrame l (bytes.set i b) = .malformedFrame l) ∧
  (∀ (c : Instr) (bytes : List Byte), c.wellFormed = true → lookupBytes c = some bytes →
    bytes.length = 5 ∧ classifyQuery bytes = c) ∧
  (∀ f : DownFrame, ∃ b0 b1 b2 b3 : Byte, f.bytes = [b0, b1, b2, b3, ~~~(b0 + b1 + b2 + b3)] ∧
    let type := (b0.extractLsb' 4 4).toNat
    let station : Station := b0.extractLsb' 0 4 ++ b1
    let payload : BitVec 16 := b2 ++ b3
    (∀ st offer, f = .negotiate st offer → type = 8 ∧ station = st ∧ payload = offer.setWidth 16) ∧
    (∀ st k, f = .order st k → type = 9 ∧ station = st ∧ payload.toNat = k.val + 1) ∧
    (∀ st, f = .abandon st → type = 10 ∧ station = st ∧ payload = 0) ∧
    (f = .reset → type = 11 ∧ station = 0 ∧ payload = 0)) ∧
  (∀ a : Answer, ∃ b0 b1 b2 b3 b4 b5 b6 b7 : Byte,
    a.bytes = [b0, b1, b2, b3, b4, b5, b6, b7, ~~~(b0 + b1 + b2 + b3 + b4 + b5 + b6 + b7)] ∧
    b0.extractLsb' 4 4 = a.status.code ∧ b0.extractLsb' 0 4 = a.tag ∧
    b1.getLsbD 7 = a.overrun ∧ b1.extractLsb' 4 3 = 0 ∧
    (a.content = none → b1.extractLsb' 0 4 = 0 ∧ b2 = 0 ∧ b3 = 0 ∧ b4 = 0 ∧ b5 = 0 ∧ b6 = 0 ∧ b7 = 0) ∧
    ∀ c ∈ a.content,
      (c.holds ≤ 15 → (b1.extractLsb' 0 4).toNat = c.holds) ∧ b2.toNat = c.handle.val ∧
      (b3.extractLsb' 4 4).toNat = c.state.code.toNat ∧ b3.extractLsb' 0 4 ++ b4 = c.epoch ∧
      (b5.extractLsb' 4 4).toNat = stepCode c.agreed ∧ b5.extractLsb' 0 4 = 0 ∧ b6 ++ b7 = c.generation) ∧
  ((∀ b : Byte, (laneBits b).length = 10 ∧ (laneBits b)[0]? = some false ∧
    (∀ i : Fin 8, (laneBits b)[i.val + 1]? = some (b.getLsbD i)) ∧ (laneBits b)[9]? = some true) ∧
  laneLevels [] = [] ∧ ∀ (b : Byte) (rest : List Byte), laneLevels (b :: rest) = laneBits b ++ laneLevels rest)

/-- Words written out from the spec's own examples and tables spell the frames and queries they stand for (section 5.2, Tables 13-2
to 13-4). The codes of Table 13-1, of the answer statuses of Table 13-5 and of the command statuses of Table 13-8 (R170, R172,
R173). -/
def Obligations.ExampleBytes : Prop :=
  (classifyFrame 2 [0x31, 0x0A, 0x00, 0x80, 0x44] = .capability 2 266 0x080 ∧
  classifyFrame 2 [0xF0, 0x20, 0x10, 0x05, 0xDA] = .malformedFrame 2 ∧
  classifyFrame 0 [0x10, 0x00, 0x01, 0x0C, 0xE2] = .lineUp 0 11 ∧
  classifyFrame 7 [0x71, 0x0A, 0x00, 0xB9, 0xCB] = .quality 7 266 185 ∧
  classifyQuery [0x13, 0x03, 0x01, 0x0A, 0xDE] = .lookupFind 3 3 266 ∧
  classifyQuery [0x35, 0x00, 0x50, 0x01, 0x79] = .hold 5 5 1) ∧
  ([RecState.parked, .waiting, .negotiating, .agreed, .holdover, .backoff, .failed, .retiring].map RecState.code =
    [0, 1, 2, 3, 4, 5, 6, 7] ∧
  [none, some Cause.initial, some .host, some .remote, some .qualityDown, some .qualityUp, some .lineCeiling,
    some .profile, some .holdoverExpiry, some .lineUp].map causeCode = [0, 1, 2, 3, 4, 5, 6, 7, 8, 9] ∧
  [Carrier.unknown, .up, .down].map Carrier.code = [0, 1, 2] ∧
  [LineState.absent, .down, .up, .lost].map LineState.code = [0, 1, 2, 3] ∧
  (∀ (r : Record) (l : LineId) (st : Station) (c : BitVec 5),
    [SlotBody.free, .live r, .vacated l st c].map SlotBody.code = [0, 1, 2]) ∧
  stepCode none = 0 ∧ (∀ k : Step, stepCode (some k) = k.val + 1) ∧
  [kindState, kindRate, kindCeiling, kindRemote, kindRetired] = [1, 2, 4, 8, 16] ∧
  [lineKindState, lineKindCeiling, lineKindUnknown, lineKindStray, lineKindFault] = [1, 2, 4, 8, 16] ∧
  [AnswerStatus.ok, .notFound, .stale, .holdFull, .retiring, .notHeld, .badQuery].map AnswerStatus.code =
    [0, 1, 2, 3, 4, 5, 6] ∧
  [Status.ok, .unknownCommand, .badArg, .stale, .notFound, .keyExists, .quota, .full, .busy, .lineDown,
    .inUse].map Status.code = [0, 1, 2, 3, 4, 5, 6, 7, 8, 9, 10])

/-! ### Invariants -/

/-- The ladders meet the three constraints of R44 between any two events. Staging and every VALID profile stay within their ranges,
and P0 stays VALID (R28, R29, R31). Every live record and every line names a VALID profile (R5, R28, R60). -/
def Obligations.StoresStayInRange : Prop :=
  (∀ s t : State, s.LaddersOk → step s = .next t → t.LaddersOk) ∧
  (∀ s t : State, s.ProfilesOk → step s = .next t → t.ProfilesOk) ∧
  (∀ s t : State, s.BindingsOk → step s = .next t → t.BindingsOk)

/-- GO reads one exactly while a sweep runs, with COMMAND_DONE clear and the results zero, and the sweep's counts fit its cursor
(R37, R159, R165). -/
def Obligations.GoHoldsWhileASweepRuns : Prop :=
  ∀ s t : State, s.PortOk → s.SweepOk → step s = .next t → t.PortOk ∧ t.SweepOk

/-- A live or vacated slot has an epoch, a vacated slot has a change, and no live record holds RETIRED (R1, R2, R22). Every line
keeps its fields in their ranges, its queue within its depth, and its silence timer running exactly while it is DOWN or UP (R60,
R65, R74). While the part is held in power-on or reset every block keeps its reset values (R169). No running timer is ever
overdue: every timer that runs was started at or before the present moment, and the last moment at which R10 lets it expire, its
start and its duration and 1 ms and 0.1 %, has not passed (R9, R10). That these moments are whole ms, with fractions of 0.1 %
dropped, and that the time base stands still while a command is taken, is the model's choice (log 3), and so is that the part
acts on its own only while no command waits (log 2). What a lane or the SPI port holds of a frame, a query, an answer or a word
under way is less than the whole of it, after every command, every bit time and every SCK cycle (R62, R136, R171 to R173). -/
def Obligations.SlotsAndLinesStayWellFormed : Prop :=
  (∀ s t : State, s.SlotsOk → step s = .next t → t.SlotsOk) ∧
  (∀ s t : State, s.LinesOk → step s = .next t → t.LinesOk) ∧
  (∀ s t : State, s.HeldOk → step s = .next t → t.HeldOk) ∧
  ((∀ tm : Timer, tm.latest =
    tm.start + tm.duration + if tm.duration = 0 then 0 else 1 + tm.duration / 1000) ∧
  ∀ s t : State, s.HeldOk → s.EveryRecord (fun r => r.AttemptOk ∧ r.TimerOk) → s.TimersInTime →
    step s = .next t → t.TimersInTime) ∧
  (∀ s t : State, s.LanesOk →
    (step s = .next t → t.LanesOk) ∧
    (∀ l : LineId, (∀ b, s.reportLevel l b = .next t → t.LanesOk) ∧ (s.reportTxNext l = .next t → t.LanesOk)) ∧
    (∀ b ahead, s.lookupLevel b ahead = .next t → t.LanesOk) ∧ (s.lookupTxNext = .next t → t.LanesOk) ∧
    (∀ b, s.spiClock b = .next t → t.LanesOk))

/-- The attempt fields, the agreed step and the timer of every record stay present or absent as its state asks, and the hold count
stays in its range (R6, R7, R9, R122). An agreed step stays a member of the remote mask, and an ordered step a member of the
offer and of the remote mask (R7, R88). At most one of the two sample counts is nonzero and both fit four bits, and the attempts
count is at most 8, 8 only in FAILED and RETIRING (R50, R51, R98). An AGREED record has carrier UP, a HOLDOVER record carrier
DOWN, and no record with an agreed step has carrier UNKNOWN (R109 to R111). -/
def Obligations.RecordsStayConsistent : Prop :=
  (∀ s t : State,
    s.EveryRecord (fun r => r.AttemptOk ∧ r.AgreedOk ∧ r.TimerOk ∧ r.HoldsOk) → step s = .next t →
    t.EveryRecord (fun r => r.AttemptOk ∧ r.AgreedOk ∧ r.TimerOk ∧ r.HoldsOk)) ∧
  (∀ s t : State,
    s.EveryRecord (fun r => r.AttemptOk ∧ r.StepInMask ∧ r.OrderedOk) → step s = .next t →
    t.EveryRecord (fun r => r.AttemptOk ∧ r.StepInMask ∧ r.OrderedOk)) ∧
  (∀ s t : State, s.LaddersOk → s.ProfilesOk → s.ArbitersOk →
    s.EveryRecord (fun r => r.QualityCountsOk ∧ r.AttemptsOk ∧
      (r.state ≠ .failed → r.state ≠ .retiring → r.attempts ≤ 7)) → step s = .next t →
    t.EveryRecord (fun r => r.QualityCountsOk ∧ r.AttemptsOk ∧
      (r.state ≠ .failed → r.state ≠ .retiring → r.attempts ≤ 7))) ∧
  (∀ s t : State,
    s.EveryRecord (fun r => r.CarrierOk ∧ (r.agreed.isSome = true → r.carrier ≠ .unknown)) → step s = .next t →
    t.EveryRecord (fun r => r.CarrierOk ∧ (r.agreed.isSome = true → r.carrier ≠ .unknown)))

/-- The grant is held by the NEGOTIATING record of its line, the queue holds the WAITING records of its line once each in their
class, WAITING, NEGOTIATING and BACKOFF records stand on UP lines, and a free grant has nobody waiting. A cause is present
exactly in the states that have one (R6, R81 to R83, R117). -/
def Obligations.ArbitersMatchTheTable : Prop :=
  ∀ s t : State, s.ArbitersOk → s.EveryRecord (fun r => s.RecordFitsLine r ∧ r.CauseOk) → step s = .next t →
    t.ArbitersOk ∧ t.EveryRecord (fun r => t.RecordFitsLine r ∧ r.CauseOk)

/-- No two live records have the same key, and no line holds more live records than its quota (R12, R13). -/
def Obligations.KeysAndQuotasHold : Prop :=
  ∀ s t : State, s.KeysUnique → s.QuotasOk → step s = .next t → t.KeysUnique ∧ t.QuotasOk

/-- The state after reset meets every invariant; it holds no record, so it meets what they ask of each record. -/
def Obligations.ResetMeetsTheInvariants : Prop :=
  State.reset.LaddersOk ∧ State.reset.ProfilesOk ∧ State.reset.PortOk ∧ State.reset.SweepOk ∧
  State.reset.SlotsOk ∧ State.reset.LinesOk ∧ State.reset.ArbitersOk ∧ State.reset.KeysUnique ∧
  State.reset.QuotasOk ∧ State.reset.HeldOk ∧ State.reset.BindingsOk ∧ State.reset.TimersInTime ∧
  State.reset.LanesOk ∧
  State.reset.EveryRecord (fun r => r.AttemptOk ∧ r.AgreedOk ∧ r.TimerOk ∧ r.HoldsOk ∧ r.StepInMask ∧
    r.OrderedOk ∧ r.CauseOk ∧ r.CarrierOk ∧ State.reset.RecordFitsLine r ∧ r.QualityCountsOk ∧ r.AttemptsOk ∧
    (r.state ≠ .failed → r.state ≠ .retiring → r.attempts ≤ 7) ∧ (r.agreed.isSome = true → r.carrier ≠ .unknown))

/-- A frame of one line reaches no other line: the other lines, their arbiters and their records stay, and so do the stores, the
host port and the lookup port (R64, R81), where the wait queues hold what R81 says. -/
def Obligations.FramesOfOneLineStayOnIt : Prop :=
  ∀ (s t : State) (c : Instr) (l : LineId), s.ArbitersOk → frameLine? c = some l → exec c s = .next t →
    s.SameOutside t ∧ t.now = s.now ∧
    (∀ k : LineId, k ≠ l → t.lines[k] = s.lines[k] ∧ t.arbiters[k] = s.arbiters[k]) ∧
    ∀ h : Handle, ∀ r ∈ s.record? h, r.line ≠ l → t.slots[h] = s.slots[h]

/-- An event that leaves a record in its slot with another agreed step, or without the one it had, changes its generation (R20). -/
def Obligations.GenerationMarksTheAgreedStep : Prop :=
  ∀ (s t : State) (c : Instr) (h : Handle) (r u : Record), exec c s = .next t →
    s.record? h = some r → t.record? h = some u → s.slots[h].epoch = t.slots[h].epoch →
    u.agreed ≠ r.agreed → u.generation ≠ r.generation
end

