-- ==== Sys2Proof/Laws/State.lean ====
section
/-! SUPPORT. One lemma per field per update of State, each true by rfl.
The changed slots, lines or arbiters are no simp lemmas: Laws/Access.lean says what one of them reads as. -/

namespace Sys2Proof.Machine

variable (s : State)

/-! ### setBody -/

@[simp] theorem State.setBody_poweringOn (h : Handle) (b : SlotBody) : (s.setBody h b).poweringOn = s.poweringOn := rfl
@[simp] theorem State.setBody_resetLow (h : Handle) (b : SlotBody) : (s.setBody h b).resetLow = s.resetLow := rfl
@[simp] theorem State.setBody_now (h : Handle) (b : SlotBody) : (s.setBody h b).now = s.now := rfl
theorem State.setBody_slots (h : Handle) (b : SlotBody) : (s.setBody h b).slots = s.slots.set h { s.slots[h] with body := b } := rfl
@[simp] theorem State.setBody_lines (h : Handle) (b : SlotBody) : (s.setBody h b).lines = s.lines := rfl
@[simp] theorem State.setBody_arbiters (h : Handle) (b : SlotBody) : (s.setBody h b).arbiters = s.arbiters := rfl
@[simp] theorem State.setBody_profiles (h : Handle) (b : SlotBody) : (s.setBody h b).profiles = s.profiles := rfl
@[simp] theorem State.setBody_staging (h : Handle) (b : SlotBody) : (s.setBody h b).staging = s.staging := rfl
@[simp] theorem State.setBody_sweep (h : Handle) (b : SlotBody) : (s.setBody h b).sweep = s.sweep := rfl
@[simp] theorem State.setBody_ladders (h : Handle) (b : SlotBody) : (s.setBody h b).ladders = s.ladders := rfl
@[simp] theorem State.setBody_port (h : Handle) (b : SlotBody) : (s.setBody h b).port = s.port := rfl
@[simp] theorem State.setBody_spi (h : Handle) (b : SlotBody) : (s.setBody h b).spi = s.spi := rfl
@[simp] theorem State.setBody_lookup (h : Handle) (b : SlotBody) : (s.setBody h b).lookup = s.lookup := rfl
@[simp] theorem State.setBody_flags (h : Handle) (b : SlotBody) : (s.setBody h b).flags = s.flags := rfl
@[simp] theorem State.setBody_enables (h : Handle) (b : SlotBody) : (s.setBody h b).enables = s.enables := rfl
@[simp] theorem State.setBody_pending (h : Handle) (b : SlotBody) : (s.setBody h b).pending = s.pending := rfl

/-! ### putRecord -/

@[simp] theorem State.putRecord_poweringOn (h : Handle) (r : Record) : (s.putRecord h r).poweringOn = s.poweringOn := rfl
@[simp] theorem State.putRecord_resetLow (h : Handle) (r : Record) : (s.putRecord h r).resetLow = s.resetLow := rfl
@[simp] theorem State.putRecord_now (h : Handle) (r : Record) : (s.putRecord h r).now = s.now := rfl
theorem State.putRecord_slots (h : Handle) (r : Record) : (s.putRecord h r).slots = s.slots.set h { s.slots[h] with body := .live r } := rfl
@[simp] theorem State.putRecord_lines (h : Handle) (r : Record) : (s.putRecord h r).lines = s.lines := rfl
@[simp] theorem State.putRecord_arbiters (h : Handle) (r : Record) : (s.putRecord h r).arbiters = s.arbiters := rfl
@[simp] theorem State.putRecord_profiles (h : Handle) (r : Record) : (s.putRecord h r).profiles = s.profiles := rfl
@[simp] theorem State.putRecord_staging (h : Handle) (r : Record) : (s.putRecord h r).staging = s.staging := rfl
@[simp] theorem State.putRecord_sweep (h : Handle) (r : Record) : (s.putRecord h r).sweep = s.sweep := rfl
@[simp] theorem State.putRecord_ladders (h : Handle) (r : Record) : (s.putRecord h r).ladders = s.ladders := rfl
@[simp] theorem State.putRecord_port (h : Handle) (r : Record) : (s.putRecord h r).port = s.port := rfl
@[simp] theorem State.putRecord_spi (h : Handle) (r : Record) : (s.putRecord h r).spi = s.spi := rfl
@[simp] theorem State.putRecord_lookup (h : Handle) (r : Record) : (s.putRecord h r).lookup = s.lookup := rfl
@[simp] theorem State.putRecord_flags (h : Handle) (r : Record) : (s.putRecord h r).flags = s.flags := rfl
@[simp] theorem State.putRecord_enables (h : Handle) (r : Record) : (s.putRecord h r).enables = s.enables := rfl
@[simp] theorem State.putRecord_pending (h : Handle) (r : Record) : (s.putRecord h r).pending = s.pending := rfl

/-! ### modLine -/

@[simp] theorem State.modLine_poweringOn (l : LineId) (f : Line → Line) : (s.modLine l f).poweringOn = s.poweringOn := rfl
@[simp] theorem State.modLine_resetLow (l : LineId) (f : Line → Line) : (s.modLine l f).resetLow = s.resetLow := rfl
@[simp] theorem State.modLine_now (l : LineId) (f : Line → Line) : (s.modLine l f).now = s.now := rfl
@[simp] theorem State.modLine_slots (l : LineId) (f : Line → Line) : (s.modLine l f).slots = s.slots := rfl
theorem State.modLine_lines (l : LineId) (f : Line → Line) : (s.modLine l f).lines = s.lines.set l (f s.lines[l]) := rfl
@[simp] theorem State.modLine_arbiters (l : LineId) (f : Line → Line) : (s.modLine l f).arbiters = s.arbiters := rfl
@[simp] theorem State.modLine_profiles (l : LineId) (f : Line → Line) : (s.modLine l f).profiles = s.profiles := rfl
@[simp] theorem State.modLine_staging (l : LineId) (f : Line → Line) : (s.modLine l f).staging = s.staging := rfl
@[simp] theorem State.modLine_sweep (l : LineId) (f : Line → Line) : (s.modLine l f).sweep = s.sweep := rfl
@[simp] theorem State.modLine_ladders (l : LineId) (f : Line → Line) : (s.modLine l f).ladders = s.ladders := rfl
@[simp] theorem State.modLine_port (l : LineId) (f : Line → Line) : (s.modLine l f).port = s.port := rfl
@[simp] theorem State.modLine_spi (l : LineId) (f : Line → Line) : (s.modLine l f).spi = s.spi := rfl
@[simp] theorem State.modLine_lookup (l : LineId) (f : Line → Line) : (s.modLine l f).lookup = s.lookup := rfl
@[simp] theorem State.modLine_flags (l : LineId) (f : Line → Line) : (s.modLine l f).flags = s.flags := rfl
@[simp] theorem State.modLine_enables (l : LineId) (f : Line → Line) : (s.modLine l f).enables = s.enables := rfl
@[simp] theorem State.modLine_pending (l : LineId) (f : Line → Line) : (s.modLine l f).pending = s.pending := rfl

/-! ### modArbiter -/

@[simp] theorem State.modArbiter_poweringOn (l : LineId) (f : Arbiter → Arbiter) : (s.modArbiter l f).poweringOn = s.poweringOn := rfl
@[simp] theorem State.modArbiter_resetLow (l : LineId) (f : Arbiter → Arbiter) : (s.modArbiter l f).resetLow = s.resetLow := rfl
@[simp] theorem State.modArbiter_now (l : LineId) (f : Arbiter → Arbiter) : (s.modArbiter l f).now = s.now := rfl
@[simp] theorem State.modArbiter_slots (l : LineId) (f : Arbiter → Arbiter) : (s.modArbiter l f).slots = s.slots := rfl
@[simp] theorem State.modArbiter_lines (l : LineId) (f : Arbiter → Arbiter) : (s.modArbiter l f).lines = s.lines := rfl
theorem State.modArbiter_arbiters (l : LineId) (f : Arbiter → Arbiter) : (s.modArbiter l f).arbiters = s.arbiters.set l (f s.arbiters[l]) := rfl
@[simp] theorem State.modArbiter_profiles (l : LineId) (f : Arbiter → Arbiter) : (s.modArbiter l f).profiles = s.profiles := rfl
@[simp] theorem State.modArbiter_staging (l : LineId) (f : Arbiter → Arbiter) : (s.modArbiter l f).staging = s.staging := rfl
@[simp] theorem State.modArbiter_sweep (l : LineId) (f : Arbiter → Arbiter) : (s.modArbiter l f).sweep = s.sweep := rfl
@[simp] theorem State.modArbiter_ladders (l : LineId) (f : Arbiter → Arbiter) : (s.modArbiter l f).ladders = s.ladders := rfl
@[simp] theorem State.modArbiter_port (l : LineId) (f : Arbiter → Arbiter) : (s.modArbiter l f).port = s.port := rfl
@[simp] theorem State.modArbiter_spi (l : LineId) (f : Arbiter → Arbiter) : (s.modArbiter l f).spi = s.spi := rfl
@[simp] theorem State.modArbiter_lookup (l : LineId) (f : Arbiter → Arbiter) : (s.modArbiter l f).lookup = s.lookup := rfl
@[simp] theorem State.modArbiter_flags (l : LineId) (f : Arbiter → Arbiter) : (s.modArbiter l f).flags = s.flags := rfl
@[simp] theorem State.modArbiter_enables (l : LineId) (f : Arbiter → Arbiter) : (s.modArbiter l f).enables = s.enables := rfl
@[simp] theorem State.modArbiter_pending (l : LineId) (f : Arbiter → Arbiter) : (s.modArbiter l f).pending = s.pending := rfl

/-! ### releaseGrant -/

@[simp] theorem State.releaseGrant_poweringOn (l : LineId) : (s.releaseGrant l).poweringOn = s.poweringOn := rfl
@[simp] theorem State.releaseGrant_resetLow (l : LineId) : (s.releaseGrant l).resetLow = s.resetLow := rfl
@[simp] theorem State.releaseGrant_now (l : LineId) : (s.releaseGrant l).now = s.now := rfl
@[simp] theorem State.releaseGrant_slots (l : LineId) : (s.releaseGrant l).slots = s.slots := rfl
@[simp] theorem State.releaseGrant_lines (l : LineId) : (s.releaseGrant l).lines = s.lines := rfl
theorem State.releaseGrant_arbiters (l : LineId) : (s.releaseGrant l).arbiters = s.arbiters.set l { s.arbiters[l] with grant := none } := rfl
@[simp] theorem State.releaseGrant_profiles (l : LineId) : (s.releaseGrant l).profiles = s.profiles := rfl
@[simp] theorem State.releaseGrant_staging (l : LineId) : (s.releaseGrant l).staging = s.staging := rfl
@[simp] theorem State.releaseGrant_sweep (l : LineId) : (s.releaseGrant l).sweep = s.sweep := rfl
@[simp] theorem State.releaseGrant_ladders (l : LineId) : (s.releaseGrant l).ladders = s.ladders := rfl
@[simp] theorem State.releaseGrant_port (l : LineId) : (s.releaseGrant l).port = s.port := rfl
@[simp] theorem State.releaseGrant_spi (l : LineId) : (s.releaseGrant l).spi = s.spi := rfl
@[simp] theorem State.releaseGrant_lookup (l : LineId) : (s.releaseGrant l).lookup = s.lookup := rfl
@[simp] theorem State.releaseGrant_flags (l : LineId) : (s.releaseGrant l).flags = s.flags := rfl
@[simp] theorem State.releaseGrant_enables (l : LineId) : (s.releaseGrant l).enables = s.enables := rfl
@[simp] theorem State.releaseGrant_pending (l : LineId) : (s.releaseGrant l).pending = s.pending := rfl

/-! ### noteLine -/

@[simp] theorem State.noteLine_poweringOn (l : LineId) (k : BitVec 5) : (s.noteLine l k).poweringOn = s.poweringOn := rfl
@[simp] theorem State.noteLine_resetLow (l : LineId) (k : BitVec 5) : (s.noteLine l k).resetLow = s.resetLow := rfl
@[simp] theorem State.noteLine_now (l : LineId) (k : BitVec 5) : (s.noteLine l k).now = s.now := rfl
@[simp] theorem State.noteLine_slots (l : LineId) (k : BitVec 5) : (s.noteLine l k).slots = s.slots := rfl
theorem State.noteLine_lines (l : LineId) (k : BitVec 5) : (s.noteLine l k).lines = s.lines.set l (Line.note k s.lines[l]) := rfl
@[simp] theorem State.noteLine_arbiters (l : LineId) (k : BitVec 5) : (s.noteLine l k).arbiters = s.arbiters := rfl
@[simp] theorem State.noteLine_profiles (l : LineId) (k : BitVec 5) : (s.noteLine l k).profiles = s.profiles := rfl
@[simp] theorem State.noteLine_staging (l : LineId) (k : BitVec 5) : (s.noteLine l k).staging = s.staging := rfl
@[simp] theorem State.noteLine_sweep (l : LineId) (k : BitVec 5) : (s.noteLine l k).sweep = s.sweep := rfl
@[simp] theorem State.noteLine_ladders (l : LineId) (k : BitVec 5) : (s.noteLine l k).ladders = s.ladders := rfl
@[simp] theorem State.noteLine_port (l : LineId) (k : BitVec 5) : (s.noteLine l k).port = s.port := rfl
@[simp] theorem State.noteLine_spi (l : LineId) (k : BitVec 5) : (s.noteLine l k).spi = s.spi := rfl
@[simp] theorem State.noteLine_lookup (l : LineId) (k : BitVec 5) : (s.noteLine l k).lookup = s.lookup := rfl
@[simp] theorem State.noteLine_flags (l : LineId) (k : BitVec 5) : (s.noteLine l k).flags = s.flags := rfl
@[simp] theorem State.noteLine_enables (l : LineId) (k : BitVec 5) : (s.noteLine l k).enables = s.enables := rfl
@[simp] theorem State.noteLine_pending (l : LineId) (k : BitVec 5) : (s.noteLine l k).pending = s.pending := rfl

/-! ### sendDown -/

@[simp] theorem State.sendDown_poweringOn (l : LineId) (f : DownFrame) : (s.sendDown l f).poweringOn = s.poweringOn := rfl
@[simp] theorem State.sendDown_resetLow (l : LineId) (f : DownFrame) : (s.sendDown l f).resetLow = s.resetLow := rfl
@[simp] theorem State.sendDown_now (l : LineId) (f : DownFrame) : (s.sendDown l f).now = s.now := rfl
@[simp] theorem State.sendDown_slots (l : LineId) (f : DownFrame) : (s.sendDown l f).slots = s.slots := rfl
@[simp] theorem State.sendDown_arbiters (l : LineId) (f : DownFrame) : (s.sendDown l f).arbiters = s.arbiters := rfl
@[simp] theorem State.sendDown_profiles (l : LineId) (f : DownFrame) : (s.sendDown l f).profiles = s.profiles := rfl
@[simp] theorem State.sendDown_staging (l : LineId) (f : DownFrame) : (s.sendDown l f).staging = s.staging := rfl
@[simp] theorem State.sendDown_sweep (l : LineId) (f : DownFrame) : (s.sendDown l f).sweep = s.sweep := rfl
@[simp] theorem State.sendDown_ladders (l : LineId) (f : DownFrame) : (s.sendDown l f).ladders = s.ladders := rfl
@[simp] theorem State.sendDown_port (l : LineId) (f : DownFrame) : (s.sendDown l f).port = s.port := rfl
@[simp] theorem State.sendDown_spi (l : LineId) (f : DownFrame) : (s.sendDown l f).spi = s.spi := rfl
@[simp] theorem State.sendDown_lookup (l : LineId) (f : DownFrame) : (s.sendDown l f).lookup = s.lookup := rfl
@[simp] theorem State.sendDown_flags (l : LineId) (f : DownFrame) : (s.sendDown l f).flags = s.flags := rfl
@[simp] theorem State.sendDown_enables (l : LineId) (f : DownFrame) : (s.sendDown l f).enables = s.enables := rfl
@[simp] theorem State.sendDown_pending (l : LineId) (f : DownFrame) : (s.sendDown l f).pending = s.pending := rfl

/-! ### sendAbandon -/

@[simp] theorem State.sendAbandon_poweringOn (r : Record) : (s.sendAbandon r).poweringOn = s.poweringOn := rfl
@[simp] theorem State.sendAbandon_resetLow (r : Record) : (s.sendAbandon r).resetLow = s.resetLow := rfl
@[simp] theorem State.sendAbandon_now (r : Record) : (s.sendAbandon r).now = s.now := rfl
@[simp] theorem State.sendAbandon_slots (r : Record) : (s.sendAbandon r).slots = s.slots := rfl
@[simp] theorem State.sendAbandon_arbiters (r : Record) : (s.sendAbandon r).arbiters = s.arbiters := rfl
@[simp] theorem State.sendAbandon_profiles (r : Record) : (s.sendAbandon r).profiles = s.profiles := rfl
@[simp] theorem State.sendAbandon_staging (r : Record) : (s.sendAbandon r).staging = s.staging := rfl
@[simp] theorem State.sendAbandon_sweep (r : Record) : (s.sendAbandon r).sweep = s.sweep := rfl
@[simp] theorem State.sendAbandon_ladders (r : Record) : (s.sendAbandon r).ladders = s.ladders := rfl
@[simp] theorem State.sendAbandon_port (r : Record) : (s.sendAbandon r).port = s.port := rfl
@[simp] theorem State.sendAbandon_spi (r : Record) : (s.sendAbandon r).spi = s.spi := rfl
@[simp] theorem State.sendAbandon_lookup (r : Record) : (s.sendAbandon r).lookup = s.lookup := rfl
@[simp] theorem State.sendAbandon_flags (r : Record) : (s.sendAbandon r).flags = s.flags := rfl
@[simp] theorem State.sendAbandon_enables (r : Record) : (s.sendAbandon r).enables = s.enables := rfl
@[simp] theorem State.sendAbandon_pending (r : Record) : (s.sendAbandon r).pending = s.pending := rfl

/-! ### heardFrame -/

@[simp] theorem State.heardFrame_poweringOn (l : LineId) : (s.heardFrame l).poweringOn = s.poweringOn := rfl
@[simp] theorem State.heardFrame_resetLow (l : LineId) : (s.heardFrame l).resetLow = s.resetLow := rfl
@[simp] theorem State.heardFrame_now (l : LineId) : (s.heardFrame l).now = s.now := rfl
@[simp] theorem State.heardFrame_slots (l : LineId) : (s.heardFrame l).slots = s.slots := rfl
@[simp] theorem State.heardFrame_arbiters (l : LineId) : (s.heardFrame l).arbiters = s.arbiters := rfl
@[simp] theorem State.heardFrame_profiles (l : LineId) : (s.heardFrame l).profiles = s.profiles := rfl
@[simp] theorem State.heardFrame_staging (l : LineId) : (s.heardFrame l).staging = s.staging := rfl
@[simp] theorem State.heardFrame_sweep (l : LineId) : (s.heardFrame l).sweep = s.sweep := rfl
@[simp] theorem State.heardFrame_ladders (l : LineId) : (s.heardFrame l).ladders = s.ladders := rfl
@[simp] theorem State.heardFrame_port (l : LineId) : (s.heardFrame l).port = s.port := rfl
@[simp] theorem State.heardFrame_spi (l : LineId) : (s.heardFrame l).spi = s.spi := rfl
@[simp] theorem State.heardFrame_lookup (l : LineId) : (s.heardFrame l).lookup = s.lookup := rfl
@[simp] theorem State.heardFrame_flags (l : LineId) : (s.heardFrame l).flags = s.flags := rfl
@[simp] theorem State.heardFrame_enables (l : LineId) : (s.heardFrame l).enables = s.enables := rfl
@[simp] theorem State.heardFrame_pending (l : LineId) : (s.heardFrame l).pending = s.pending := rfl

/-! ### setTableFull -/

@[simp] theorem State.setTableFull_poweringOn : (s.setTableFull).poweringOn = s.poweringOn := rfl
@[simp] theorem State.setTableFull_resetLow : (s.setTableFull).resetLow = s.resetLow := rfl
@[simp] theorem State.setTableFull_now : (s.setTableFull).now = s.now := rfl
@[simp] theorem State.setTableFull_slots : (s.setTableFull).slots = s.slots := rfl
@[simp] theorem State.setTableFull_lines : (s.setTableFull).lines = s.lines := rfl
@[simp] theorem State.setTableFull_arbiters : (s.setTableFull).arbiters = s.arbiters := rfl
@[simp] theorem State.setTableFull_profiles : (s.setTableFull).profiles = s.profiles := rfl
@[simp] theorem State.setTableFull_staging : (s.setTableFull).staging = s.staging := rfl
@[simp] theorem State.setTableFull_sweep : (s.setTableFull).sweep = s.sweep := rfl
@[simp] theorem State.setTableFull_ladders : (s.setTableFull).ladders = s.ladders := rfl
@[simp] theorem State.setTableFull_port : (s.setTableFull).port = s.port := rfl
@[simp] theorem State.setTableFull_spi : (s.setTableFull).spi = s.spi := rfl
@[simp] theorem State.setTableFull_lookup : (s.setTableFull).lookup = s.lookup := rfl
@[simp] theorem State.setTableFull_flags : (s.setTableFull).flags = { s.flags with tableFull := true } := rfl
@[simp] theorem State.setTableFull_enables : (s.setTableFull).enables = s.enables := rfl
@[simp] theorem State.setTableFull_pending : (s.setTableFull).pending = s.pending := rfl

/-! ### setNoticeLost -/

@[simp] theorem State.setNoticeLost_poweringOn : (s.setNoticeLost).poweringOn = s.poweringOn := rfl
@[simp] theorem State.setNoticeLost_resetLow : (s.setNoticeLost).resetLow = s.resetLow := rfl
@[simp] theorem State.setNoticeLost_now : (s.setNoticeLost).now = s.now := rfl
@[simp] theorem State.setNoticeLost_slots : (s.setNoticeLost).slots = s.slots := rfl
@[simp] theorem State.setNoticeLost_lines : (s.setNoticeLost).lines = s.lines := rfl
@[simp] theorem State.setNoticeLost_arbiters : (s.setNoticeLost).arbiters = s.arbiters := rfl
@[simp] theorem State.setNoticeLost_profiles : (s.setNoticeLost).profiles = s.profiles := rfl
@[simp] theorem State.setNoticeLost_staging : (s.setNoticeLost).staging = s.staging := rfl
@[simp] theorem State.setNoticeLost_sweep : (s.setNoticeLost).sweep = s.sweep := rfl
@[simp] theorem State.setNoticeLost_ladders : (s.setNoticeLost).ladders = s.ladders := rfl
@[simp] theorem State.setNoticeLost_port : (s.setNoticeLost).port = s.port := rfl
@[simp] theorem State.setNoticeLost_spi : (s.setNoticeLost).spi = s.spi := rfl
@[simp] theorem State.setNoticeLost_lookup : (s.setNoticeLost).lookup = s.lookup := rfl
@[simp] theorem State.setNoticeLost_flags : (s.setNoticeLost).flags = { s.flags with noticeLost := true } := rfl
@[simp] theorem State.setNoticeLost_enables : (s.setNoticeLost).enables = s.enables := rfl
@[simp] theorem State.setNoticeLost_pending : (s.setNoticeLost).pending = s.pending := rfl

/-! ### setLookupOverrun -/

@[simp] theorem State.setLookupOverrun_poweringOn : (s.setLookupOverrun).poweringOn = s.poweringOn := rfl
@[simp] theorem State.setLookupOverrun_resetLow : (s.setLookupOverrun).resetLow = s.resetLow := rfl
@[simp] theorem State.setLookupOverrun_now : (s.setLookupOverrun).now = s.now := rfl
@[simp] theorem State.setLookupOverrun_slots : (s.setLookupOverrun).slots = s.slots := rfl
@[simp] theorem State.setLookupOverrun_lines : (s.setLookupOverrun).lines = s.lines := rfl
@[simp] theorem State.setLookupOverrun_arbiters : (s.setLookupOverrun).arbiters = s.arbiters := rfl
@[simp] theorem State.setLookupOverrun_profiles : (s.setLookupOverrun).profiles = s.profiles := rfl
@[simp] theorem State.setLookupOverrun_staging : (s.setLookupOverrun).staging = s.staging := rfl
@[simp] theorem State.setLookupOverrun_sweep : (s.setLookupOverrun).sweep = s.sweep := rfl
@[simp] theorem State.setLookupOverrun_ladders : (s.setLookupOverrun).ladders = s.ladders := rfl
@[simp] theorem State.setLookupOverrun_port : (s.setLookupOverrun).port = s.port := rfl
@[simp] theorem State.setLookupOverrun_spi : (s.setLookupOverrun).spi = s.spi := rfl
@[simp] theorem State.setLookupOverrun_lookup : (s.setLookupOverrun).lookup = s.lookup := rfl
@[simp] theorem State.setLookupOverrun_flags : (s.setLookupOverrun).flags = { s.flags with lookupOverrun := true } := rfl
@[simp] theorem State.setLookupOverrun_enables : (s.setLookupOverrun).enables = s.enables := rfl
@[simp] theorem State.setLookupOverrun_pending : (s.setLookupOverrun).pending = s.pending := rfl

/-! ### setMailboxBusy -/

@[simp] theorem State.setMailboxBusy_poweringOn : (s.setMailboxBusy).poweringOn = s.poweringOn := rfl
@[simp] theorem State.setMailboxBusy_resetLow : (s.setMailboxBusy).resetLow = s.resetLow := rfl
@[simp] theorem State.setMailboxBusy_now : (s.setMailboxBusy).now = s.now := rfl
@[simp] theorem State.setMailboxBusy_slots : (s.setMailboxBusy).slots = s.slots := rfl
@[simp] theorem State.setMailboxBusy_lines : (s.setMailboxBusy).lines = s.lines := rfl
@[simp] theorem State.setMailboxBusy_arbiters : (s.setMailboxBusy).arbiters = s.arbiters := rfl
@[simp] theorem State.setMailboxBusy_profiles : (s.setMailboxBusy).profiles = s.profiles := rfl
@[simp] theorem State.setMailboxBusy_staging : (s.setMailboxBusy).staging = s.staging := rfl
@[simp] theorem State.setMailboxBusy_sweep : (s.setMailboxBusy).sweep = s.sweep := rfl
@[simp] theorem State.setMailboxBusy_ladders : (s.setMailboxBusy).ladders = s.ladders := rfl
@[simp] theorem State.setMailboxBusy_port : (s.setMailboxBusy).port = { s.port with mailboxBusy := true } := rfl
@[simp] theorem State.setMailboxBusy_spi : (s.setMailboxBusy).spi = s.spi := rfl
@[simp] theorem State.setMailboxBusy_lookup : (s.setMailboxBusy).lookup = s.lookup := rfl
@[simp] theorem State.setMailboxBusy_flags : (s.setMailboxBusy).flags = s.flags := rfl
@[simp] theorem State.setMailboxBusy_enables : (s.setMailboxBusy).enables = s.enables := rfl
@[simp] theorem State.setMailboxBusy_pending : (s.setMailboxBusy).pending = s.pending := rfl

/-! ### began -/

@[simp] theorem State.began_poweringOn : (s.began).poweringOn = s.poweringOn := rfl
@[simp] theorem State.began_resetLow : (s.began).resetLow = s.resetLow := rfl
@[simp] theorem State.began_now : (s.began).now = s.now := rfl
@[simp] theorem State.began_slots : (s.began).slots = s.slots := rfl
@[simp] theorem State.began_lines : (s.began).lines = s.lines := rfl
@[simp] theorem State.began_arbiters : (s.began).arbiters = s.arbiters := rfl
@[simp] theorem State.began_profiles : (s.began).profiles = s.profiles := rfl
@[simp] theorem State.began_staging : (s.began).staging = s.staging := rfl
@[simp] theorem State.began_sweep : (s.began).sweep = s.sweep := rfl
@[simp] theorem State.began_ladders : (s.began).ladders = s.ladders := rfl
@[simp] theorem State.began_port : (s.began).port = { s.port with go := true, res := Vector.replicate 8 0, status := 0 } := rfl
@[simp] theorem State.began_spi : (s.began).spi = s.spi := rfl
@[simp] theorem State.began_lookup : (s.began).lookup = s.lookup := rfl
@[simp] theorem State.began_flags : (s.began).flags = { s.flags with commandDone := false } := rfl
@[simp] theorem State.began_enables : (s.began).enables = s.enables := rfl
@[simp] theorem State.began_pending : (s.began).pending = s.pending := rfl

/-! ### complete -/

@[simp] theorem State.complete_poweringOn (st : Status) (res : List Word) : (s.complete st res).poweringOn = s.poweringOn := rfl
@[simp] theorem State.complete_resetLow (st : Status) (res : List Word) : (s.complete st res).resetLow = s.resetLow := rfl
@[simp] theorem State.complete_now (st : Status) (res : List Word) : (s.complete st res).now = s.now := rfl
@[simp] theorem State.complete_slots (st : Status) (res : List Word) : (s.complete st res).slots = s.slots := rfl
@[simp] theorem State.complete_lines (st : Status) (res : List Word) : (s.complete st res).lines = s.lines := rfl
@[simp] theorem State.complete_arbiters (st : Status) (res : List Word) : (s.complete st res).arbiters = s.arbiters := rfl
@[simp] theorem State.complete_profiles (st : Status) (res : List Word) : (s.complete st res).profiles = s.profiles := rfl
@[simp] theorem State.complete_staging (st : Status) (res : List Word) : (s.complete st res).staging = s.staging := rfl
@[simp] theorem State.complete_sweep (st : Status) (res : List Word) : (s.complete st res).sweep = s.sweep := rfl
@[simp] theorem State.complete_ladders (st : Status) (res : List Word) : (s.complete st res).ladders = s.ladders := rfl
@[simp] theorem State.complete_port (st : Status) (res : List Word) : (s.complete st res).port = { s.port with res := resWords res, status := st.code, go := false } := rfl
@[simp] theorem State.complete_spi (st : Status) (res : List Word) : (s.complete st res).spi = s.spi := rfl
@[simp] theorem State.complete_lookup (st : Status) (res : List Word) : (s.complete st res).lookup = s.lookup := rfl
@[simp] theorem State.complete_flags (st : Status) (res : List Word) : (s.complete st res).flags = { s.flags with commandDone := true } := rfl
@[simp] theorem State.complete_enables (st : Status) (res : List Word) : (s.complete st res).enables = s.enables := rfl
@[simp] theorem State.complete_pending (st : Status) (res : List Word) : (s.complete st res).pending = s.pending := rfl

/-! ### writeFlags -/

@[simp] theorem State.writeFlags_poweringOn (v : Word) : (s.writeFlags v).poweringOn = s.poweringOn := rfl
@[simp] theorem State.writeFlags_resetLow (v : Word) : (s.writeFlags v).resetLow = s.resetLow := rfl
@[simp] theorem State.writeFlags_now (v : Word) : (s.writeFlags v).now = s.now := rfl
@[simp] theorem State.writeFlags_slots (v : Word) : (s.writeFlags v).slots = s.slots := rfl
@[simp] theorem State.writeFlags_lines (v : Word) : (s.writeFlags v).lines = s.lines := rfl
@[simp] theorem State.writeFlags_arbiters (v : Word) : (s.writeFlags v).arbiters = s.arbiters := rfl
@[simp] theorem State.writeFlags_profiles (v : Word) : (s.writeFlags v).profiles = s.profiles := rfl
@[simp] theorem State.writeFlags_staging (v : Word) : (s.writeFlags v).staging = s.staging := rfl
@[simp] theorem State.writeFlags_sweep (v : Word) : (s.writeFlags v).sweep = s.sweep := rfl
@[simp] theorem State.writeFlags_ladders (v : Word) : (s.writeFlags v).ladders = s.ladders := rfl
@[simp] theorem State.writeFlags_port (v : Word) : (s.writeFlags v).port = s.port := rfl
@[simp] theorem State.writeFlags_spi (v : Word) : (s.writeFlags v).spi = s.spi := rfl
@[simp] theorem State.writeFlags_lookup (v : Word) : (s.writeFlags v).lookup = s.lookup := rfl
@[simp] theorem State.writeFlags_flags (v : Word) : (s.writeFlags v).flags = s.flags.clear v := rfl
@[simp] theorem State.writeFlags_enables (v : Word) : (s.writeFlags v).enables = s.enables := rfl
@[simp] theorem State.writeFlags_pending (v : Word) : (s.writeFlags v).pending = s.pending := rfl

/-! ### writeEnables -/

@[simp] theorem State.writeEnables_poweringOn (v : Word) : (s.writeEnables v).poweringOn = s.poweringOn := rfl
@[simp] theorem State.writeEnables_resetLow (v : Word) : (s.writeEnables v).resetLow = s.resetLow := rfl
@[simp] theorem State.writeEnables_now (v : Word) : (s.writeEnables v).now = s.now := rfl
@[simp] theorem State.writeEnables_slots (v : Word) : (s.writeEnables v).slots = s.slots := rfl
@[simp] theorem State.writeEnables_lines (v : Word) : (s.writeEnables v).lines = s.lines := rfl
@[simp] theorem State.writeEnables_arbiters (v : Word) : (s.writeEnables v).arbiters = s.arbiters := rfl
@[simp] theorem State.writeEnables_profiles (v : Word) : (s.writeEnables v).profiles = s.profiles := rfl
@[simp] theorem State.writeEnables_staging (v : Word) : (s.writeEnables v).staging = s.staging := rfl
@[simp] theorem State.writeEnables_sweep (v : Word) : (s.writeEnables v).sweep = s.sweep := rfl
@[simp] theorem State.writeEnables_ladders (v : Word) : (s.writeEnables v).ladders = s.ladders := rfl
@[simp] theorem State.writeEnables_port (v : Word) : (s.writeEnables v).port = s.port := rfl
@[simp] theorem State.writeEnables_spi (v : Word) : (s.writeEnables v).spi = s.spi := rfl
@[simp] theorem State.writeEnables_lookup (v : Word) : (s.writeEnables v).lookup = s.lookup := rfl
@[simp] theorem State.writeEnables_flags (v : Word) : (s.writeEnables v).flags = s.flags := rfl
@[simp] theorem State.writeEnables_enables (v : Word) : (s.writeEnables v).enables = v &&& Config.enablesMask := rfl
@[simp] theorem State.writeEnables_pending (v : Word) : (s.writeEnables v).pending = s.pending := rfl

/-! ### writePortStatus -/

@[simp] theorem State.writePortStatus_poweringOn (v : Word) : (s.writePortStatus v).poweringOn = s.poweringOn := rfl
@[simp] theorem State.writePortStatus_resetLow (v : Word) : (s.writePortStatus v).resetLow = s.resetLow := rfl
@[simp] theorem State.writePortStatus_now (v : Word) : (s.writePortStatus v).now = s.now := rfl
@[simp] theorem State.writePortStatus_slots (v : Word) : (s.writePortStatus v).slots = s.slots := rfl
@[simp] theorem State.writePortStatus_lines (v : Word) : (s.writePortStatus v).lines = s.lines := rfl
@[simp] theorem State.writePortStatus_arbiters (v : Word) : (s.writePortStatus v).arbiters = s.arbiters := rfl
@[simp] theorem State.writePortStatus_profiles (v : Word) : (s.writePortStatus v).profiles = s.profiles := rfl
@[simp] theorem State.writePortStatus_staging (v : Word) : (s.writePortStatus v).staging = s.staging := rfl
@[simp] theorem State.writePortStatus_sweep (v : Word) : (s.writePortStatus v).sweep = s.sweep := rfl
@[simp] theorem State.writePortStatus_ladders (v : Word) : (s.writePortStatus v).ladders = s.ladders := rfl
@[simp] theorem State.writePortStatus_port (v : Word) : (s.writePortStatus v).port = { s.port with mailboxBusy := s.port.mailboxBusy && !v.getLsbD 0 } := rfl
@[simp] theorem State.writePortStatus_spi (v : Word) : (s.writePortStatus v).spi = s.spi := rfl
@[simp] theorem State.writePortStatus_lookup (v : Word) : (s.writePortStatus v).lookup = s.lookup := rfl
@[simp] theorem State.writePortStatus_flags (v : Word) : (s.writePortStatus v).flags = s.flags := rfl
@[simp] theorem State.writePortStatus_enables (v : Word) : (s.writePortStatus v).enables = s.enables := rfl
@[simp] theorem State.writePortStatus_pending (v : Word) : (s.writePortStatus v).pending = s.pending := rfl

/-! ### spiDeselect -/

@[simp] theorem State.spiDeselect_poweringOn : (s.spiDeselect).poweringOn = s.poweringOn := rfl
@[simp] theorem State.spiDeselect_resetLow : (s.spiDeselect).resetLow = s.resetLow := rfl
@[simp] theorem State.spiDeselect_now : (s.spiDeselect).now = s.now := rfl
@[simp] theorem State.spiDeselect_slots : (s.spiDeselect).slots = s.slots := rfl
@[simp] theorem State.spiDeselect_lines : (s.spiDeselect).lines = s.lines := rfl
@[simp] theorem State.spiDeselect_arbiters : (s.spiDeselect).arbiters = s.arbiters := rfl
@[simp] theorem State.spiDeselect_profiles : (s.spiDeselect).profiles = s.profiles := rfl
@[simp] theorem State.spiDeselect_staging : (s.spiDeselect).staging = s.staging := rfl
@[simp] theorem State.spiDeselect_sweep : (s.spiDeselect).sweep = s.sweep := rfl
@[simp] theorem State.spiDeselect_ladders : (s.spiDeselect).ladders = s.ladders := rfl
@[simp] theorem State.spiDeselect_port : (s.spiDeselect).port = s.port := rfl
@[simp] theorem State.spiDeselect_spi : (s.spiDeselect).spi = .idle := rfl
@[simp] theorem State.spiDeselect_lookup : (s.spiDeselect).lookup = s.lookup := rfl
@[simp] theorem State.spiDeselect_flags : (s.spiDeselect).flags = s.flags := rfl
@[simp] theorem State.spiDeselect_enables : (s.spiDeselect).enables = s.enables := rfl
@[simp] theorem State.spiDeselect_pending : (s.spiDeselect).pending = s.pending := rfl

/-! ### tick -/

@[simp] theorem State.tick_poweringOn : (s.tick).poweringOn = s.poweringOn := rfl
@[simp] theorem State.tick_resetLow : (s.tick).resetLow = s.resetLow := rfl
@[simp] theorem State.tick_now : (s.tick).now = s.now + 1 := rfl
@[simp] theorem State.tick_slots : (s.tick).slots = s.slots := rfl
@[simp] theorem State.tick_lines : (s.tick).lines = s.lines := rfl
@[simp] theorem State.tick_arbiters : (s.tick).arbiters = s.arbiters := rfl
@[simp] theorem State.tick_profiles : (s.tick).profiles = s.profiles := rfl
@[simp] theorem State.tick_staging : (s.tick).staging = s.staging := rfl
@[simp] theorem State.tick_sweep : (s.tick).sweep = s.sweep := rfl
@[simp] theorem State.tick_ladders : (s.tick).ladders = s.ladders := rfl
@[simp] theorem State.tick_port : (s.tick).port = s.port := rfl
@[simp] theorem State.tick_spi : (s.tick).spi = s.spi := rfl
@[simp] theorem State.tick_lookup : (s.tick).lookup = s.lookup := rfl
@[simp] theorem State.tick_flags : (s.tick).flags = s.flags := rfl
@[simp] theorem State.tick_enables : (s.tick).enables = s.enables := rfl
@[simp] theorem State.tick_pending : (s.tick).pending = s.pending := rfl

end Sys2Proof.Machine
end

