-- ==== Sys2Proof/Laws/Access.lean ====
section
/-! SUPPORT. What a slot, a line and an arbiter read as after a write to it or to another. -/

namespace Sys2Proof.Machine

variable (s : State)

/-! ### Slots -/

theorem State.slot_setBody (h k : Handle) (b : SlotBody) :
    (s.setBody h b).slots[k] = if h = k then { s.slots[h] with body := b } else s.slots[k] := by
  simp only [State.setBody, Fin.getElem_fin, Vector.getElem_set, Fin.ext_iff]

@[simp] theorem State.slot_setBody_same (h : Handle) (b : SlotBody) :
    (s.setBody h b).slots[h] = { s.slots[h] with body := b } := by
  rw [State.slot_setBody, if_pos rfl]

theorem State.slot_setBody_other {h k : Handle} (hk : h ≠ k) (b : SlotBody) :
    (s.setBody h b).slots[k] = s.slots[k] := by
  rw [State.slot_setBody, if_neg hk]

/-- No write to a body changes an epoch (R2). -/
@[simp] theorem State.epoch_setBody (h k : Handle) (b : SlotBody) :
    (s.setBody h b).slots[k].epoch = s.slots[k].epoch := by
  rw [State.slot_setBody]
  split
  · next e => rw [e]
  · rfl

theorem State.record?_of_body {h : Handle} {r : Record} (e : s.slots[h].body = .live r) :
    s.record? h = some r := by
  simp only [State.record?, e]

theorem State.body_of_record? {h : Handle} {r : Record} (e : s.record? h = some r) :
    s.slots[h].body = .live r := by
  unfold State.record? at e
  split at e
  · next b => rw [b, Option.some.inj e]
  · cases e

theorem State.record?_iff {h : Handle} {r : Record} :
    s.record? h = some r ↔ s.slots[h].body = .live r :=
  ⟨s.body_of_record?, s.record?_of_body⟩

theorem State.record?_congr {t : State} {h : Handle} (e : t.slots[h] = s.slots[h]) :
    t.record? h = s.record? h := by
  simp only [State.record?, e]

theorem State.record?_putRecord (h k : Handle) (r : Record) :
    (s.putRecord h r).record? k = if h = k then some r else s.record? k := by
  simp only [State.record?, State.putRecord]
  rw [State.slot_setBody]
  by_cases e : h = k
  · rw [if_pos e, if_pos e]
  · rw [if_neg e, if_neg e]

@[simp] theorem State.record?_putRecord_same (h : Handle) (r : Record) :
    (s.putRecord h r).record? h = some r := by
  rw [State.record?_putRecord, if_pos rfl]

theorem State.record?_putRecord_other {h k : Handle} (hk : h ≠ k) (r : Record) :
    (s.putRecord h r).record? k = s.record? k := by
  rw [State.record?_putRecord, if_neg hk]

/-- Of two records stored in one slot the second stands. -/
@[simp] theorem State.putRecord_putRecord (h : Handle) (a b : Record) :
    (s.putRecord h a).putRecord h b = s.putRecord h b := by
  have e : s.slots[h].epoch = (s.putRecord h a).slots[h].epoch := by
    simp only [State.putRecord, State.slot_setBody_same]
  unfold State.putRecord State.setBody at *
  simp only [← e, Vector.set_set]

@[simp] theorem State.epoch_putRecord (h k : Handle) (r : Record) :
    (s.putRecord h r).slots[k].epoch = s.slots[k].epoch := s.epoch_setBody h k _

@[simp] theorem State.record?_modLine (l : LineId) (f : Line → Line) (h : Handle) :
    (s.modLine l f).record? h = s.record? h := rfl

@[simp] theorem State.record?_modArbiter (l : LineId) (f : Arbiter → Arbiter) (h : Handle) :
    (s.modArbiter l f).record? h = s.record? h := rfl

@[simp] theorem State.record?_releaseGrant (l : LineId) (h : Handle) :
    (s.releaseGrant l).record? h = s.record? h := rfl

@[simp] theorem State.record?_sendDown (l : LineId) (f : DownFrame) (h : Handle) :
    (s.sendDown l f).record? h = s.record? h := rfl

@[simp] theorem State.record?_sendAbandon (r : Record) (h : Handle) :
    (s.sendAbandon r).record? h = s.record? h := rfl

@[simp] theorem State.record?_heardFrame (l : LineId) (h : Handle) :
    (s.heardFrame l).record? h = s.record? h := rfl

/-- A pair names a record exactly when its epoch is not 0, is the slot's, and the slot is live (R3). -/
theorem State.named?_iff {h : Handle} {e : Epoch} {r : Record} :
    s.named? h e = some r ↔ e ≠ 0 ∧ s.slots[h].epoch = e ∧ s.record? h = some r := by
  unfold State.named?
  split
  · next c => exact ⟨fun x => ⟨c.1, c.2, x⟩, fun x => x.2.2⟩
  · next c => exact ⟨fun x => (nomatch x), fun x => absurd ⟨x.1, x.2.1⟩ c⟩

/-! ### Lines -/

theorem State.line_modLine (l k : LineId) (f : Line → Line) :
    (s.modLine l f).lines[k] = if l = k then f s.lines[l] else s.lines[k] := by
  simp only [State.modLine, Fin.getElem_fin, Vector.getElem_set, Fin.ext_iff]

@[simp] theorem State.line_modLine_same (l : LineId) (f : Line → Line) :
    (s.modLine l f).lines[l] = f s.lines[l] := by
  rw [State.line_modLine, if_pos rfl]

theorem State.line_modLine_other {l k : LineId} (hk : l ≠ k) (f : Line → Line) :
    (s.modLine l f).lines[k] = s.lines[k] := by
  rw [State.line_modLine, if_neg hk]

@[simp] theorem State.lineIsUp_putRecord (h : Handle) (r : Record) (l : LineId) :
    (s.putRecord h r).lineIsUp l = s.lineIsUp l := rfl

@[simp] theorem State.lineIsUp_setBody (h : Handle) (b : SlotBody) (l : LineId) :
    (s.setBody h b).lineIsUp l = s.lineIsUp l := rfl

@[simp] theorem State.lineIsUp_modArbiter (k : LineId) (f : Arbiter → Arbiter) (l : LineId) :
    (s.modArbiter k f).lineIsUp l = s.lineIsUp l := rfl

@[simp] theorem State.lineIsUp_releaseGrant (k l : LineId) :
    (s.releaseGrant k).lineIsUp l = s.lineIsUp l := rfl

/-- A frame handed down moves nothing of a line but its queue and its FAULT (R74). -/
theorem State.line_sendDown (l k : LineId) (f : DownFrame) :
    (s.sendDown l f).lines[k] =
      if l = k then
        if s.lines[l].txQueue.length < Config.txQueueDepth then
          { s.lines[l] with txQueue := s.lines[l].txQueue ++ [f] }
        else Line.note lineKindFault s.lines[l]
      else s.lines[k] := by
  simp only [State.sendDown, State.line_modLine]

@[simp] theorem State.lineIsUp_sendDown (k : LineId) (f : DownFrame) (l : LineId) :
    (s.sendDown k f).lineIsUp l = s.lineIsUp l := by
  simp only [State.lineIsUp, State.line_sendDown]
  split
  · next e => subst e; split <;> rfl
  · rfl

@[simp] theorem State.lineIsUp_sendAbandon (r : Record) (l : LineId) :
    (s.sendAbandon r).lineIsUp l = s.lineIsUp l := s.lineIsUp_sendDown _ _ l

/-! ### Arbiters -/

theorem State.arbiter_modArbiter (l k : LineId) (f : Arbiter → Arbiter) :
    (s.modArbiter l f).arbiters[k] = if l = k then f s.arbiters[l] else s.arbiters[k] := by
  simp only [State.modArbiter, Fin.getElem_fin, Vector.getElem_set, Fin.ext_iff]

@[simp] theorem State.arbiter_modArbiter_same (l : LineId) (f : Arbiter → Arbiter) :
    (s.modArbiter l f).arbiters[l] = f s.arbiters[l] := by
  rw [State.arbiter_modArbiter, if_pos rfl]

theorem State.arbiter_modArbiter_other {l k : LineId} (hk : l ≠ k) (f : Arbiter → Arbiter) :
    (s.modArbiter l f).arbiters[k] = s.arbiters[k] := by
  rw [State.arbiter_modArbiter, if_neg hk]

/-! ### Profiles -/

@[simp] theorem State.profileOf_putRecord (h : Handle) (r : Record) (p : Fin 16) :
    (s.putRecord h r).profileOf p = s.profileOf p := rfl

@[simp] theorem State.profileOf_modArbiter (l : LineId) (f : Arbiter → Arbiter) (p : Fin 16) :
    (s.modArbiter l f).profileOf p = s.profileOf p := rfl

@[simp] theorem State.profileOf_modLine (l : LineId) (f : Line → Line) (p : Fin 16) :
    (s.modLine l f).profileOf p = s.profileOf p := rfl

@[simp] theorem State.profileOf_releaseGrant (l : LineId) (p : Fin 16) :
    (s.releaseGrant l).profileOf p = s.profileOf p := rfl

/-! ### Induction over the handles -/

/-- What every turn of a walk over the handles keeps, the walk keeps. -/
theorem State.forHandles_induction {P : State → Prop} {f : Handle → State → State}
    (hf : ∀ h t, P t → P (f h t)) (hs : P s) : P (s.forHandles f) := by
  unfold State.forHandles
  generalize List.finRange 256 = hs'
  induction hs' generalizing s with
  | nil => exact hs
  | cons h rest ih => exact ih (f h s) (hf h s hs)

end Sys2Proof.Machine
end

