-- ==== Sys2Proof/Laws/Outer.lean ====
section
/-! SUPPORT. The operations on the table, the lines and the arbiters change nothing else of the part, and nothing else of it than
the profiles and the time base decides what they do. -/

namespace Sys2Proof.Machine

/-! ### Nothing else changes -/

/-- A state differs from another in its slots, lines and arbiters at most. -/
def State.Outer (s t : State) : Prop :=
  t = { s with slots := t.slots, lines := t.lines, arbiters := t.arbiters }

theorem State.Outer.refl (s : State) : s.Outer s := rfl

theorem State.Outer.trans {s t u : State} (a : s.Outer t) (b : t.Outer u) : s.Outer u := by
  unfold State.Outer at *
  rw [a] at b
  exact b

theorem State.outer_setBody (s : State) (h : Handle) (b : SlotBody) : s.Outer (s.setBody h b) := rfl

theorem State.outer_putRecord (s : State) (h : Handle) (r : Record) : s.Outer (s.putRecord h r) := rfl

theorem State.outer_modLine (s : State) (l : LineId) (f : Line → Line) : s.Outer (s.modLine l f) := rfl

theorem State.outer_modArbiter (s : State) (l : LineId) (f : Arbiter → Arbiter) :
    s.Outer (s.modArbiter l f) := rfl

theorem State.outer_releaseGrant (s : State) (l : LineId) : s.Outer (s.releaseGrant l) := rfl

theorem State.outer_sendDown (s : State) (l : LineId) (f : DownFrame) : s.Outer (s.sendDown l f) := rfl

theorem State.outer_requeue (s : State) (h : Handle) (c : Cause) : s.Outer (s.requeue h c) := by
  unfold State.requeue
  split
  · rfl
  · dsimp only
    split <;> rfl

theorem State.outer_classMove (s : State) (h : Handle) (c : Cause) : s.Outer (s.classMove h c) := by
  unfold State.classMove
  split <;> rfl

theorem State.outer_postCheck (s : State) (h : Handle) : s.Outer (s.postCheck h) := by
  unfold State.postCheck
  repeat' (first | rfl | exact State.outer_requeue _ _ _ | split)

theorem State.outer_passToHoldover (s : State) (h : Handle) : s.Outer (s.passToHoldover h) := by
  unfold State.passToHoldover
  repeat' (first | rfl | split)

theorem State.outer_returnQualityUp (s : State) (h : Handle) (r : Record) (w : FailReason) :
    s.Outer (s.returnQualityUp h r w) := by
  unfold State.returnQualityUp
  dsimp only
  split
  · rfl
  · exact ((State.outer_putRecord _ _ _).trans (State.outer_postCheck _ _)).trans
      (State.outer_passToHoldover _ _)

theorem State.outer_placeBackoff (s : State) (h : Handle) (r : Record) : s.Outer (s.placeBackoff h r) := by
  unfold State.placeBackoff
  dsimp only
  split <;> rfl

theorem State.outer_failAttempt (s : State) (h : Handle) (w : FailReason) : s.Outer (s.failAttempt h w) := by
  unfold State.failAttempt
  split
  · rfl
  · dsimp only
    split
    · exact (State.outer_releaseGrant _ _).trans (State.outer_returnQualityUp _ _ _ _)
    · exact (State.outer_releaseGrant _ _).trans (State.outer_placeBackoff _ _ _)

theorem State.outer_startAttempt (s : State) (l : LineId) (h : Handle) : s.Outer (s.startAttempt l h) := by
  unfold State.startAttempt
  split
  · rfl
  · dsimp only
    split
    · exact (State.outer_putRecord _ _ _).trans (State.outer_failAttempt _ _ _)
    · rfl

theorem State.outer_handOutLoop (n : Nat) (l : LineId) (s : State) : s.Outer (handOutLoop n l s) := by
  induction n generalizing s with
  | zero => rfl
  | succ n ih =>
    unfold handOutLoop
    split
    · rfl
    · split
      · rfl
      · exact ((State.outer_modArbiter _ _ _).trans (State.outer_startAttempt _ _ _)).trans (ih _)

theorem State.outer_handOut (s : State) (l : LineId) : s.Outer (s.handOut l) := State.outer_handOutLoop _ l s

theorem State.outer_abandonAndFail (s : State) (h : Handle) (r : Record) (w : FailReason) :
    s.Outer (s.abandonAndFail h r w) :=
  ((State.outer_sendDown _ _ _).trans (State.outer_failAttempt _ _ _)).trans (State.outer_handOut _ _)

theorem State.outer_succeed (s : State) (h : Handle) (r : Record) (k : Step) : s.Outer (s.succeed h r k) :=
  (((State.outer_releaseGrant s r.line).trans (State.outer_putRecord _ _ _)).trans (State.outer_postCheck _ _)).trans
    (State.outer_handOut _ _)

theorem State.outer_leaveTable (s : State) (h : Handle) : s.Outer (s.leaveTable h) := by
  unfold State.leaveTable
  split <;> rfl

theorem State.outer_forHandles (s : State) {f : Handle → State → State} (hf : ∀ h t, State.Outer t (f h t)) :
    s.Outer (s.forHandles f) :=
  State.forHandles_induction s (P := s.Outer) (fun h t a => a.trans (hf h t)) (State.Outer.refl s)

theorem State.outer_lineLeavesUp (s : State) (l : LineId) : s.Outer (s.lineLeavesUp l) := by
  unfold State.lineLeavesUp
  refine (State.outer_forHandles s fun h t => ?_).trans (State.outer_modArbiter _ _ _)
  repeat' (first | rfl | split)

theorem State.outer_lineBecomesUp (s : State) (l : LineId) : s.Outer (s.lineBecomesUp l) := by
  unfold State.lineBecomesUp
  refine (State.outer_forHandles s fun h t => ?_).trans (State.outer_handOut _ _)
  repeat' (first | rfl | exact State.outer_requeue _ _ _ | split)

theorem State.outer_ceilingVisit (s : State) (l : LineId) (c : Step) (h : Handle) :
    s.Outer (s.ceilingVisit l c h) := by
  unfold State.ceilingVisit
  repeat' (first | rfl | exact State.outer_requeue _ _ _ | exact State.outer_classMove _ _ _ | split)

theorem State.outer_ceilingLowered (s : State) (l : LineId) (c : Step) : s.Outer (s.ceilingLowered l c) :=
  (State.outer_forHandles s fun h t => State.outer_ceilingVisit t l c h).trans (State.outer_handOut _ _)

theorem State.outer_loseLine (s : State) (l : LineId) : s.Outer (s.loseLine l) := by
  unfold State.loseLine
  dsimp only
  split
  · exact (State.outer_modLine _ _ _).trans (State.outer_lineLeavesUp _ _)
  · rfl

/-! ### Nothing else decides -/

/-- What the operations on the table, the lines and the arbiters neither read nor write. -/
structure Rest where
  poweringOn : Bool
  resetLow : Bool
  staging : Profile
  sweep : Option Sweep
  ladders : Vector Ladder 4
  port : HostPort
  spi : Spi
  lookup : LookupPort
  flags : StickyFlags
  enables : Word
  pending : List Instr

/-- A state with that part of it replaced. -/
def State.withRest (s : State) (x : Rest) : State :=
  { s with
    poweringOn := x.poweringOn, resetLow := x.resetLow, staging := x.staging, sweep := x.sweep
    ladders := x.ladders, port := x.port, spi := x.spi, lookup := x.lookup, flags := x.flags, enables := x.enables
    pending := x.pending }

/-- An operation neither reads nor writes that part. -/
def SeesTable (f : State → State) : Prop := ∀ s x, f (s.withRest x) = (f s).withRest x

theorem SeesTable.comp {f g : State → State} (hf : SeesTable f) (hg : SeesTable g) :
    SeesTable fun s => f (g s) := fun s x => by simp only [hg s x, hf (g s) x]

section
variable (s : State) (x : Rest)

@[simp] theorem State.record?_withRest (h : Handle) : (s.withRest x).record? h = s.record? h := rfl
@[simp] theorem State.profileOf_withRest (p : Fin 16) : (s.withRest x).profileOf p = s.profileOf p := rfl
@[simp] theorem State.lineIsUp_withRest (l : LineId) : (s.withRest x).lineIsUp l = s.lineIsUp l := rfl
@[simp] theorem State.startTimer_withRest (n : Nat) : (s.withRest x).startTimer n = s.startTimer n := rfl
@[simp] theorem State.slots_withRest : (s.withRest x).slots = s.slots := rfl
@[simp] theorem State.lines_withRest : (s.withRest x).lines = s.lines := rfl
@[simp] theorem State.arbiters_withRest : (s.withRest x).arbiters = s.arbiters := rfl
@[simp] theorem State.profiles_withRest : (s.withRest x).profiles = s.profiles := rfl
@[simp] theorem State.now_withRest : (s.withRest x).now = s.now := rfl

@[simp] theorem State.putRecord_withRest (h : Handle) (r : Record) :
    (s.withRest x).putRecord h r = (s.putRecord h r).withRest x := rfl

@[simp] theorem State.setBody_withRest (h : Handle) (b : SlotBody) :
    (s.withRest x).setBody h b = (s.setBody h b).withRest x := rfl

@[simp] theorem State.modLine_withRest (l : LineId) (f : Line → Line) :
    (s.withRest x).modLine l f = (s.modLine l f).withRest x := rfl

@[simp] theorem State.modArbiter_withRest (l : LineId) (f : Arbiter → Arbiter) :
    (s.withRest x).modArbiter l f = (s.modArbiter l f).withRest x := rfl

@[simp] theorem State.releaseGrant_withRest (l : LineId) :
    (s.withRest x).releaseGrant l = (s.releaseGrant l).withRest x := rfl

@[simp] theorem State.sendDown_withRest (l : LineId) (f : DownFrame) :
    (s.withRest x).sendDown l f = (s.sendDown l f).withRest x := rfl

@[simp] theorem State.sendAbandon_withRest (r : Record) :
    (s.withRest x).sendAbandon r = (s.sendAbandon r).withRest x := rfl

@[simp] theorem State.requeue_withRest (h : Handle) (c : Cause) :
    (s.withRest x).requeue h c = (s.requeue h c).withRest x := by
  unfold State.requeue
  rw [State.record?_withRest]
  cases s.record? h with
  | none => rfl
  | some r =>
    simp only [State.lineIsUp_withRest, State.profileOf_withRest]
    rw [apply_ite (fun t : State => t.withRest x)]
    rfl

@[simp] theorem State.classMove_withRest (h : Handle) (c : Cause) :
    (s.withRest x).classMove h c = (s.classMove h c).withRest x := by
  unfold State.classMove
  rw [State.record?_withRest]
  cases s.record? h <;> rfl

@[simp] theorem State.postCheck_withRest (h : Handle) :
    (s.withRest x).postCheck h = (s.postCheck h).withRest x := by
  unfold State.postCheck
  rw [State.record?_withRest]
  cases s.record? h with
  | none => rfl
  | some r =>
    cases hk : r.agreed with
    | none => simp only [hk]
    | some k =>
      simp only [hk, State.lines_withRest, State.profileOf_withRest, State.requeue_withRest]
      split
      · rfl
      · split
        · rfl
        · split <;> rfl

@[simp] theorem State.passToHoldover_withRest (h : Handle) :
    (s.withRest x).passToHoldover h = (s.passToHoldover h).withRest x := by
  unfold State.passToHoldover
  rw [State.record?_withRest]
  cases s.record? h with
  | none => rfl
  | some r =>
    dsimp only
    split <;> rfl

@[simp] theorem State.returnQualityUp_withRest (h : Handle) (r : Record) (w : FailReason) :
    (s.withRest x).returnQualityUp h r w = (s.returnQualityUp h r w).withRest x := by
  unfold State.returnQualityUp
  dsimp only
  split
  · rfl
  · rw [State.putRecord_withRest, State.postCheck_withRest, State.passToHoldover_withRest]
    rfl

@[simp] theorem State.placeBackoff_withRest (h : Handle) (r : Record) :
    (s.withRest x).placeBackoff h r = (s.placeBackoff h r).withRest x := by
  unfold State.placeBackoff
  simp only [State.profileOf_withRest]
  rw [apply_ite (fun t : State => t.withRest x)]
  rfl

@[simp] theorem State.failAttempt_withRest (h : Handle) (w : FailReason) :
    (s.withRest x).failAttempt h w = (s.failAttempt h w).withRest x := by
  unfold State.failAttempt
  rw [State.record?_withRest]
  cases s.record? h with
  | none => rfl
  | some r =>
    simp only [State.releaseGrant_withRest, State.returnQualityUp_withRest, State.placeBackoff_withRest]
    split <;> rfl

@[simp] theorem State.startAttempt_withRest (l : LineId) (h : Handle) :
    (s.withRest x).startAttempt l h = (s.startAttempt l h).withRest x := by
  unfold State.startAttempt
  rw [State.record?_withRest]
  cases s.record? h with
  | none => rfl
  | some r =>
    simp only [State.profileOf_withRest, State.lines_withRest, State.putRecord_withRest,
      State.failAttempt_withRest, State.startTimer_withRest, State.sendDown_withRest]
    split <;> rfl

@[simp] theorem State.handOutLoop_withRest (n : Nat) (l : LineId) :
    handOutLoop n l (s.withRest x) = (handOutLoop n l s).withRest x := by
  induction n generalizing s with
  | zero => rfl
  | succ n ih =>
    unfold handOutLoop
    simp only [State.arbiters_withRest, State.lineIsUp_withRest, State.modArbiter_withRest,
      State.startAttempt_withRest, ih]
    rw [apply_ite (fun t : State => t.withRest x)]
    cases s.arbiters[l].next? <;> rfl

@[simp] theorem State.handOut_withRest (l : LineId) : (s.withRest x).handOut l = (s.handOut l).withRest x :=
  State.handOutLoop_withRest s x _ l

@[simp] theorem State.abandonAndFail_withRest (h : Handle) (r : Record) (w : FailReason) :
    (s.withRest x).abandonAndFail h r w = (s.abandonAndFail h r w).withRest x := by
  simp only [State.abandonAndFail, State.sendAbandon_withRest, State.failAttempt_withRest,
    State.handOut_withRest]

@[simp] theorem State.succeed_withRest (h : Handle) (r : Record) (k : Step) :
    (s.withRest x).succeed h r k = (s.succeed h r k).withRest x := by
  simp only [State.succeed, State.releaseGrant_withRest, State.putRecord_withRest,
    State.postCheck_withRest, State.handOut_withRest, State.profileOf_withRest]

@[simp] theorem State.leaveTable_withRest (h : Handle) :
    (s.withRest x).leaveTable h = (s.leaveTable h).withRest x := by
  unfold State.leaveTable
  rw [State.record?_withRest]
  cases s.record? h <;> rfl

theorem State.forHandles_withRest {f : Handle → State → State} (hf : ∀ h, SeesTable (f h)) :
    (s.withRest x).forHandles f = (s.forHandles f).withRest x := by
  unfold State.forHandles
  generalize List.finRange 256 = hs
  induction hs generalizing s with
  | nil => rfl
  | cons h rest ih =>
    simp only [List.foldl_cons]
    rw [hf h s x, ih]

@[simp] theorem State.lineLeavesUp_withRest (l : LineId) :
    (s.withRest x).lineLeavesUp l = (s.lineLeavesUp l).withRest x := by
  unfold State.lineLeavesUp
  rw [State.forHandles_withRest, State.modArbiter_withRest]
  intro h t y
  dsimp only
  rw [State.record?_withRest]
  cases t.record? h with
  | none => rfl
  | some r =>
    dsimp only
    split <;> rfl

@[simp] theorem State.lineBecomesUp_withRest (l : LineId) :
    (s.withRest x).lineBecomesUp l = (s.lineBecomesUp l).withRest x := by
  unfold State.lineBecomesUp
  rw [State.forHandles_withRest, State.handOut_withRest]
  intro h t y
  dsimp only
  rw [State.record?_withRest]
  cases t.record? h with
  | none => rfl
  | some r =>
    simp only [State.requeue_withRest]
    split <;> rfl

@[simp] theorem State.ceilingVisit_withRest (l : LineId) (c : Step) (h : Handle) :
    (s.withRest x).ceilingVisit l c h = (s.ceilingVisit l c h).withRest x := by
  unfold State.ceilingVisit
  rw [State.record?_withRest]
  cases s.record? h with
  | none => rfl
  | some r =>
    cases hk : r.agreed with
    | none => simp only [hk]
    | some k =>
      simp only [hk, State.requeue_withRest, State.classMove_withRest, State.arbiters_withRest]
      split
      · split
        all_goals first | rfl | (split <;> rfl)
      · rfl

@[simp] theorem State.ceilingLowered_withRest (l : LineId) (c : Step) :
    (s.withRest x).ceilingLowered l c = (s.ceilingLowered l c).withRest x := by
  unfold State.ceilingLowered
  rw [State.forHandles_withRest, State.handOut_withRest]
  exact fun h t y => State.ceilingVisit_withRest t y l c h

@[simp] theorem State.loseLine_withRest (l : LineId) :
    (s.withRest x).loseLine l = (s.loseLine l).withRest x := by
  unfold State.loseLine
  simp only [State.lineIsUp_withRest, State.modLine_withRest, State.lineLeavesUp_withRest]
  split <;> rfl

end

end Sys2Proof.Machine
end

