-- ==== Sys2Proof/Laws/HostPort.lean ====
section
/-! SUPPORT. Argument words are read back, and a host command that completes at once answers its owner's effect. -/

namespace Sys2Proof.Machine

/-! ### Argument words -/

theorem Word.below_some {n : Nat} {w : Word} (h : w.toNat < n) : Word.below n w = some ⟨w.toNat, h⟩ := by
  simp [Word.below, h]

theorem Word.below_none {n : Nat} {w : Word} (h : n ≤ w.toNat) : Word.below n w = none := by
  simp [Word.below, Nat.not_lt.mpr h]

theorem toNat_wordOf {n : Nat} (h : n < 65536) : (wordOf n).toNat = n := by
  simp [wordOf, Nat.mod_eq_of_lt h]

theorem Word.below_wordOf {n : Nat} (k : Fin n) (hn : n ≤ 65536) : Word.below n (wordOf k.val) = some k := by
  have e : (wordOf k.val).toNat = k.val := toNat_wordOf (lt_of_lt_of_le k.isLt hn)
  rw [Word.below_some (by rw [e]; exact k.isLt)]
  exact congrArg some (Fin.ext e)

@[simp] theorem Word.below_handleWord (h : Handle) : Word.below 256 (handleWord h) = some h :=
  Word.below_wordOf h (by decide)

@[simp] theorem Word.below_lineWord (l : LineId) : Word.below 8 (lineWord l) = some l :=
  Word.below_wordOf l (by decide)

@[simp] theorem Word.below_profile (p : Fin 16) : Word.below 16 (wordOf p.val) = some p :=
  Word.below_wordOf p (by decide)

@[simp] theorem Word.twelve?_setWidth (e : BitVec 12) : Word.twelve? (e.setWidth 16) = some e := by
  have h : (e.setWidth 16).toNat ≤ 4095 := by
    rw [BitVec.toNat_setWidth]
    omega
  rw [Word.twelve?, if_pos h]
  refine congrArg some (BitVec.eq_of_toNat_eq ?_)
  simp only [BitVec.toNat_setWidth]
  omega

@[simp] theorem Word.kinds?_setWidth (k : BitVec 5) : Word.kinds? (k.setWidth 16) = some k := by
  have h : (k.setWidth 16).toNat < 32 := by
    rw [BitVec.toNat_setWidth]
    omega
  rw [Word.kinds?, if_pos h]
  refine congrArg some (BitVec.eq_of_toNat_eq ?_)
  simp only [BitVec.toNat_setWidth]
  omega

@[simp] theorem Word.step?_stepWord (k : Step) : Word.step? (stepWord (some k)) = some k := by
  revert k
  decide

@[simp] theorem Word.step?_zero : Word.step? (stepWord none) = none := by decide

theorem Word.below_stepWord (o : Option Step) : (Word.below 13 (stepWord o)).isSome = true := by
  revert o
  decide

theorem Word.byte_setWidth (v : BitVec 8) :
    Word.below 256 (v.setWidth 16) = some ⟨v.toNat, v.isLt⟩ := by
  have e : (v.setWidth 16).toNat = v.toNat := by
    rw [BitVec.toNat_setWidth]
    omega
  rw [Word.below_some (by rw [e]; exact v.isLt)]
  exact congrArg some (Fin.ext e)

/-! ### Start and completion -/

/-- The state a command is taken in: its words stored, GO one, COMMAND_DONE clear, results and status zero (R158, R159). -/
def State.started (s : State) (code : Word) (args : List Word) : State :=
  ({ s with port := s.port.load code args } : State).began

/-- What the start leaves outside the table, the lines and the arbiters. -/
def State.startedRest (s : State) (code : Word) (args : List Word) : Rest :=
  { poweringOn := s.poweringOn, resetLow := s.resetLow, staging := s.staging, sweep := s.sweep
    ladders := s.ladders
    port := { s.port.load code args with go := true, res := Vector.replicate 8 0, status := 0 }
    spi := s.spi, lookup := s.lookup, flags := { s.flags with commandDone := false }
    enables := s.enables, pending := s.pending }

theorem State.started_eq (s : State) (code : Word) (args : List Word) :
    s.started code args = s.withRest (s.startedRest code args) := rfl

/-- The arguments a command reads are those it was started with; the others keep their words. -/
@[simp] theorem State.started_arg (s : State) (code : Word) (args : List Word) (i : Fin 6) :
    (s.started code args).arg i = args.getD i.val s.port.args[i] := by
  simp [State.arg, State.started, State.began, HostPort.load]

section
variable (s : State) (code : Word) (args : List Word)

@[simp] theorem State.started_slots : (s.started code args).slots = s.slots := rfl
@[simp] theorem State.started_lines : (s.started code args).lines = s.lines := rfl
@[simp] theorem State.started_arbiters : (s.started code args).arbiters = s.arbiters := rfl
@[simp] theorem State.started_profiles : (s.started code args).profiles = s.profiles := rfl
@[simp] theorem State.started_staging : (s.started code args).staging = s.staging := rfl
@[simp] theorem State.started_ladders : (s.started code args).ladders = s.ladders := rfl
@[simp] theorem State.started_now : (s.started code args).now = s.now := rfl
@[simp] theorem State.started_record? (h : Handle) : (s.started code args).record? h = s.record? h := rfl
@[simp] theorem State.started_named? (h : Handle) (e : Epoch) :
    (s.started code args).named? h e = s.named? h e := rfl
@[simp] theorem State.started_findKey (l : LineId) (st : Station) :
    (s.started code args).findKey l st = s.findKey l st := rfl
@[simp] theorem State.started_isValid (p : Fin 16) : (s.started code args).isValid p = s.isValid p := rfl
@[simp] theorem State.started_liveCount (l : LineId) : (s.started code args).liveCount l = s.liveCount l := rfl
@[simp] theorem State.started_lineIsUp (l : LineId) : (s.started code args).lineIsUp l = s.lineIsUp l := rfl
@[simp] theorem State.started_profileOf (p : Fin 16) : (s.started code args).profileOf p = s.profileOf p := rfl
@[simp] theorem State.started_startTimer (n : Nat) : (s.started code args).startTimer n = s.startTimer n := rfl
@[simp] theorem State.started_putRecord (h : Handle) (r : Record) :
    (s.started code args).putRecord h r = (s.putRecord h r).withRest (s.startedRest code args) :=
  State.putRecord_withRest s (s.startedRest code args) h r
@[simp] theorem State.started_setBody (h : Handle) (b : SlotBody) :
    (s.started code args).setBody h b = (s.setBody h b).withRest (s.startedRest code args) :=
  State.setBody_withRest s (s.startedRest code args) h b
@[simp] theorem State.started_modLine (l : LineId) (f : Line → Line) :
    (s.started code args).modLine l f = (s.modLine l f).withRest (s.startedRest code args) :=
  State.modLine_withRest s (s.startedRest code args) l f
@[simp] theorem State.started_modArbiter (l : LineId) (f : Arbiter → Arbiter) :
    (s.started code args).modArbiter l f = (s.modArbiter l f).withRest (s.startedRest code args) :=
  State.modArbiter_withRest s (s.startedRest code args) l f
@[simp] theorem State.started_requeue (h : Handle) (c : Cause) :
    (s.started code args).requeue h c = (s.requeue h c).withRest (s.startedRest code args) :=
  State.requeue_withRest s (s.startedRest code args) h c
@[simp] theorem State.started_classMove (h : Handle) (c : Cause) :
    (s.started code args).classMove h c = (s.classMove h c).withRest (s.startedRest code args) :=
  State.classMove_withRest s (s.startedRest code args) h c
@[simp] theorem State.started_releaseGrant (l : LineId) :
    (s.started code args).releaseGrant l = (s.releaseGrant l).withRest (s.startedRest code args) :=
  State.releaseGrant_withRest s (s.startedRest code args) l
@[simp] theorem State.started_sendAbandon (r : Record) :
    (s.started code args).sendAbandon r = (s.sendAbandon r).withRest (s.startedRest code args) :=
  State.sendAbandon_withRest s (s.startedRest code args) r
@[simp] theorem State.started_sendDown (l : LineId) (f : DownFrame) :
    (s.started code args).sendDown l f = (s.sendDown l f).withRest (s.startedRest code args) :=
  State.sendDown_withRest s (s.startedRest code args) l f
@[simp] theorem State.started_handOut (l : LineId) :
    (s.started code args).handOut l = (s.handOut l).withRest (s.startedRest code args) :=
  State.handOut_withRest s (s.startedRest code args) l
@[simp] theorem State.started_leaveTable (h : Handle) :
    (s.started code args).leaveTable h = (s.leaveTable h).withRest (s.startedRest code args) :=
  State.leaveTable_withRest s (s.startedRest code args) h
@[simp] theorem State.started_lineLeavesUp (l : LineId) :
    (s.started code args).lineLeavesUp l = (s.lineLeavesUp l).withRest (s.startedRest code args) :=
  State.lineLeavesUp_withRest s (s.startedRest code args) l

end

@[simp] theorem State.stateWord_withRest (s : State) (x : Rest) (h : Handle) :
    (s.withRest x).stateWord h = s.stateWord h := rfl

/-- A host command taken while GO reads zero is its owner's answer to the started state. -/
theorem State.issue_ready {s : State} (hs : s.ready) (code : Word) (args : List Word) (body : State → CmdResult) :
    s.issue code args body = match body (s.started code args) with
      | .done t status res => t.complete status res
      | .running t => t := by
  simp only [State.issue, hs.1, hs.2, State.startCommand, State.started]
  rfl

/-- A command whose owner is done at once completes. -/
theorem State.issue_done {s t : State} {code : Word} {args res : List Word} {body : State → CmdResult}
    {status : Status} (hs : s.ready) (e : body (s.started code args) = .done t status res) :
    s.issue code args body = t.complete status res := by
  rw [State.issue_ready hs, e]

theorem State.answered_port (s : State) (code : Word) (args : List Word) (status : Status) (res : List Word) :
    (s.answered code args status res).port =
      { s.port.load code args with res := resWords res, status := status.code, go := false } := rfl

/-- An owner's effect on the table, the lines and the arbiters, completed, is the effect answered. -/
theorem State.complete_withRest {s u : State} (o : s.Outer u) (code : Word) (args : List Word) (status : Status)
    (res : List Word) :
    (u.withRest (s.startedRest code args)).complete status res = u.answered code args status res := by
  unfold State.Outer at o
  rw [o]
  rfl

/-- An owner that changes the table, the lines and the arbiters alone answers that change. -/
theorem State.issue_answers {s u : State} {code : Word} {args res : List Word} {body : State → CmdResult}
    {status : Status} (hs : s.ready) (o : s.Outer u)
    (e : body (s.started code args) = .done (u.withRest (s.startedRest code args)) status res) :
    s.issue code args body = u.answered code args status res := by
  rw [State.issue_done hs e, State.complete_withRest o]

/-- An owner that changes nothing answers the state as it stood. -/
theorem State.issue_unchanged {s : State} {code : Word} {args res : List Word} {body : State → CmdResult}
    {status : Status} (hs : s.ready) (e : body (s.started code args) = .done (s.started code args) status res) :
    s.issue code args body = s.answered code args status res :=
  State.issue_answers hs (State.Outer.refl s) e

/-- A host command that finds GO one only sets MAILBOX_BUSY (R160). -/
theorem State.issue_busy {s : State} (hr : s.running = true) (hg : s.port.go = true) (code : Word)
    (args : List Word) (body : State → CmdResult) : s.issue code args body = s.setMailboxBusy := by
  simp only [State.issue, hr, hg]
  rfl

/-- A host command of a held part changes nothing (R169). -/
theorem State.issue_held {s : State} (hr : s.running = false) (code : Word) (args : List Word)
    (body : State → CmdResult) : s.issue code args body = s := by
  simp only [State.issue, hr]
  rfl

end Sys2Proof.Machine
end

