-- ==== Sys2Proof/Laws/Ops.lean ====
section
/-! SUPPORT. One law per shared operation: what a search answers, which slots an operation can move, and the cases of a
query and of an expiry. -/

namespace Sys2Proof.Machine

/-! ### Searches -/

/-- The answer of a search over the steps: the highest step that meets the condition. -/
theorem highestStep_some {f : Step → Bool} {k : Step} :
    highestStep f = some k ↔ f k = true ∧ ∀ j, f j = true → j ≤ k := by
  unfold highestStep
  constructor
  · intro e
    refine ⟨List.find?_some e, fun j hj => ?_⟩
    obtain ⟨-, a, b, hl, ha⟩ := List.find?_eq_some_iff_append.1 e
    by_contra hlt
    have hlt : k < j := not_le.1 hlt
    have hs : (a ++ k :: b).Pairwise (· > ·) := by
      rw [← hl, List.pairwise_reverse]
      exact List.pairwise_lt_finRange 12
    have hm : j ∈ a ++ k :: b := by
      rw [← hl]
      exact List.mem_reverse.2 (List.mem_finRange j)
    rcases List.mem_append.1 hm with hm | hm
    · exact absurd hj (by simpa using ha j hm)
    · rcases List.mem_cons.1 hm with rfl | hm
      · exact absurd hlt (lt_irrefl _)
      · have := (List.pairwise_cons.1 (List.pairwise_append.1 hs).2.1).1 j hm
        exact absurd (lt_trans hlt this) (lt_irrefl _)
  · rintro ⟨hk, hall⟩
    cases e : (List.finRange 12).reverse.find? f with
    | none =>
      exact absurd hk (by simpa using List.find?_eq_none.1 e k (List.mem_reverse.2 (List.mem_finRange k)))
    | some j =>
      obtain ⟨-, a, b, hl, ha⟩ := List.find?_eq_some_iff_append.1 e
      have hjk : j ≤ k := hall j (List.find?_some e)
      rcases eq_or_lt_of_le hjk with rfl | hlt
      · rfl
      · exfalso
        have hs : (a ++ j :: b).Pairwise (· > ·) := by
          rw [← hl, List.pairwise_reverse]
          exact List.pairwise_lt_finRange 12
        have hm : k ∈ a ++ j :: b := by
          rw [← hl]
          exact List.mem_reverse.2 (List.mem_finRange k)
        rcases List.mem_append.1 hm with hm | hm
        · exact absurd hk (by simpa using ha k hm)
        · rcases List.mem_cons.1 hm with rfl | hm
          · exact absurd hlt (lt_irrefl _)
          · have := (List.pairwise_cons.1 (List.pairwise_append.1 hs).2.1).1 k hm
            exact absurd (lt_trans hlt this) (lt_irrefl _)

theorem highestStep_none {f : Step → Bool} : highestStep f = none ↔ ∀ k, f k = false := by
  unfold highestStep
  rw [List.find?_eq_none]
  exact ⟨fun e k => by simpa using e k (List.mem_reverse.2 (List.mem_finRange k)), fun e k _ => by simp [e k]⟩

/-- The search for the first handle with a property answers the lowest one (R14, R145). -/
theorem find_handle_some {f : Handle → Bool} {h : Handle} :
    (List.finRange 256).find? f = some h ↔ f h = true ∧ ∀ k, k < h → f k = false := by
  constructor
  · intro e
    obtain ⟨hf, a, b, hl, ha⟩ := List.find?_eq_some_iff_append.1 e
    refine ⟨hf, fun k hk => ?_⟩
    have hs : (a ++ h :: b).Pairwise (· < ·) := by
      rw [← hl]
      exact List.pairwise_lt_finRange 256
    have hm : k ∈ a ++ h :: b := by
      rw [← hl]
      exact List.mem_finRange k
    rcases List.mem_append.1 hm with hm | hm
    · simpa using ha k hm
    · rcases List.mem_cons.1 hm with rfl | hm
      · exact absurd hk (lt_irrefl _)
      · have := (List.pairwise_cons.1 (List.pairwise_append.1 hs).2.1).1 k hm
        exact absurd (lt_trans hk this) (lt_irrefl _)
  · rintro ⟨hf, hlow⟩
    cases e : (List.finRange 256).find? f with
    | none => exact absurd hf (by simpa using List.find?_eq_none.1 e h (List.mem_finRange h))
    | some j =>
      obtain ⟨hj, a, b, hl, ha⟩ := List.find?_eq_some_iff_append.1 e
      rcases lt_trichotomy j h with hlt | rfl | hlt
      · exact absurd hj (by simp [hlow j hlt])
      · rfl
      · exfalso
        have hs : (a ++ j :: b).Pairwise (· < ·) := by
          rw [← hl]
          exact List.pairwise_lt_finRange 256
        have hm : h ∈ a ++ j :: b := by
          rw [← hl]
          exact List.mem_finRange h
        rcases List.mem_append.1 hm with hm | hm
        · exact absurd hf (by simpa using ha h hm)
        · rcases List.mem_cons.1 hm with rfl | hm
          · exact absurd hlt (lt_irrefl _)
          · have := (List.pairwise_cons.1 (List.pairwise_append.1 hs).2.1).1 h hm
            exact absurd (lt_trans hlt this) (lt_irrefl _)

theorem find_handle_none {f : Handle → Bool} : (List.finRange 256).find? f = none ↔ ∀ h, f h = false := by
  rw [List.find?_eq_none]
  exact ⟨fun e h => by simpa using e h (List.mem_finRange h), fun e h _ => by simp [e h]⟩

theorem SlotBody.hasKey_iff {b : SlotBody} {l : LineId} {st : Station} :
    b.hasKey l st = true ↔ ∃ r, b = .live r ∧ r.line = l ∧ r.station = st := by
  cases b with
  | free => simp [SlotBody.hasKey]
  | vacated _ _ _ => simp [SlotBody.hasKey]
  | live r => simp [SlotBody.hasKey]

/-- The key index names a live record with the key (R12). -/
theorem State.findKey_some {s : State} {l : LineId} {st : Station} {h : Handle} (e : s.findKey l st = some h) :
    ∃ r, s.record? h = some r ∧ r.line = l ∧ r.station = st := by
  obtain ⟨r, hb, hk⟩ := SlotBody.hasKey_iff.1 (find_handle_some.1 e).1
  exact ⟨r, s.record?_of_body hb, hk⟩

/-- The key index names nothing exactly when no live record has the key (R12). -/
theorem State.findKey_none {s : State} {l : LineId} {st : Station} :
    s.findKey l st = none ↔ ∀ h r, s.record? h = some r → ¬(r.line = l ∧ r.station = st) := by
  unfold State.findKey
  rw [find_handle_none]
  constructor
  · intro e h r hr hk
    have := SlotBody.hasKey_iff.2 ⟨r, s.body_of_record? hr, hk⟩
    rw [e h] at this
    cases this
  · intro e h
    cases c : s.slots[h].body.hasKey l st with
    | false => rfl
    | true =>
      obtain ⟨r, hb, hk⟩ := SlotBody.hasKey_iff.1 c
      exact absurd hk (e h r (s.record?_of_body hb))

/-! ### Which slots an operation moves -/

/-- Only the body of slot `h` may differ. -/
def State.OnlySlot (s : State) (h : Handle) (t : State) : Prop :=
  (∀ k, k ≠ h → t.slots[k] = s.slots[k]) ∧ t.slots[h].epoch = s.slots[h].epoch

theorem State.OnlySlot.refl (s : State) (h : Handle) : s.OnlySlot h s := ⟨fun _ _ => rfl, rfl⟩

theorem State.OnlySlot.trans {s t u : State} {h : Handle} (a : s.OnlySlot h t) (b : t.OnlySlot h u) : s.OnlySlot h u :=
  ⟨fun k hk => (b.1 k hk).trans (a.1 k hk), b.2.trans a.2⟩

theorem State.onlySlot_setBody (s : State) (h : Handle) (b : SlotBody) : s.OnlySlot h (s.setBody h b) :=
  ⟨fun _ hk => s.slot_setBody_other (Ne.symm hk) b, s.epoch_setBody h h b⟩

theorem State.onlySlot_putRecord (s : State) (h : Handle) (r : Record) : s.OnlySlot h (s.putRecord h r) :=
  s.onlySlot_setBody h _

theorem State.onlySlot_requeue (s : State) (h : Handle) (c : Cause) : s.OnlySlot h (s.requeue h c) := by
  unfold State.requeue
  split
  · exact .refl s h
  · split
    · exact s.onlySlot_putRecord h _
    · exact s.onlySlot_putRecord h _

theorem State.onlySlot_classMove (s : State) (h : Handle) (c : Cause) : s.OnlySlot h (s.classMove h c) := by
  unfold State.classMove
  split
  · exact .refl s h
  · exact s.onlySlot_putRecord h _

theorem State.onlySlot_postCheck (s : State) (h : Handle) : s.OnlySlot h (s.postCheck h) := by
  unfold State.postCheck
  repeat' split
  all_goals first | exact .refl s h | exact s.onlySlot_requeue h _

theorem State.onlySlot_passToHoldover (s : State) (h : Handle) : s.OnlySlot h (s.passToHoldover h) := by
  unfold State.passToHoldover
  repeat' split
  all_goals first | exact .refl s h | exact s.onlySlot_putRecord h _

theorem State.onlySlot_returnQualityUp (s : State) (h : Handle) (r : Record) (w : FailReason) :
    s.OnlySlot h (s.returnQualityUp h r w) := by
  unfold State.returnQualityUp
  dsimp only
  split
  · exact s.onlySlot_putRecord h _
  · exact ((s.onlySlot_putRecord h _).trans (State.onlySlot_postCheck _ h)).trans (State.onlySlot_passToHoldover _ h)

theorem State.onlySlot_placeBackoff (s : State) (h : Handle) (r : Record) : s.OnlySlot h (s.placeBackoff h r) := by
  unfold State.placeBackoff
  dsimp only
  split <;> exact s.onlySlot_putRecord h _

/-- A failed attempt moves its own record alone (R97). -/
theorem State.onlySlot_failAttempt (s : State) (h : Handle) (w : FailReason) : s.OnlySlot h (s.failAttempt h w) := by
  unfold State.failAttempt
  split
  · exact .refl s h
  · dsimp only
    split
    · exact (s.releaseGrant _).onlySlot_returnQualityUp h _ _
    · exact (s.releaseGrant _).onlySlot_placeBackoff h _

/-- The start of an attempt moves its own record alone (R87). -/
theorem State.onlySlot_startAttempt (s : State) (l : LineId) (h : Handle) : s.OnlySlot h (s.startAttempt l h) := by
  unfold State.startAttempt
  split
  · exact .refl s h
  · dsimp only
    split
    · exact (s.onlySlot_putRecord h _).trans (State.onlySlot_failAttempt _ h _)
    · exact s.onlySlot_putRecord h _

theorem State.onlySlot_leaveTable (s : State) (h : Handle) : s.OnlySlot h (s.leaveTable h) := by
  unfold State.leaveTable
  split
  · exact .refl s h
  · exact s.onlySlot_setBody h _

/-- One turn of the hand-out: it ends, or the next waiting record starts its attempt on the grant (R83). -/
theorem handOutLoop_cases (n : Nat) (l : LineId) (s : State) :
    handOutLoop (n + 1) l s = s ∨
    ∃ h, s.arbiters[l].next? = some h ∧
      handOutLoop (n + 1) l s = handOutLoop n l ((s.modArbiter l Arbiter.giveGrant).startAttempt l h) := by
  rw [handOutLoop]
  split
  · exact .inl rfl
  · split
    · exact .inl rfl
    · rename_i h hn; exact .inr ⟨h, hn, rfl⟩

/-- A hand-out steps no epoch: only an allocation does (R2). -/
theorem epoch_handOutLoop (n : Nat) (l : LineId) (s : State) (k : Handle) :
    (handOutLoop n l s).slots[k].epoch = s.slots[k].epoch := by
  induction n generalizing s with
  | zero => rfl
  | succ n ih =>
    obtain e | ⟨h, -, e⟩ := handOutLoop_cases n l s
    · rw [e]
    · rw [e, ih]
      have o := (s.modArbiter l Arbiter.giveGrant).onlySlot_startAttempt l h
      by_cases hk : k = h
      · subst hk; exact o.2
      · rw [o.1 k hk]; rfl

@[simp] theorem State.epoch_handOut (s : State) (l : LineId) (k : Handle) :
    (s.handOut l).slots[k].epoch = s.slots[k].epoch := epoch_handOutLoop _ l s k

/-! ### Queries and expiries -/

/-- The three outcomes of a query: not taken, discarded, or applied and answered (R136, R138, R169). -/
theorem State.query_cases (s : State) (tag : Tag) (f : State → Applied) :
    ((s.running = false ∨ s.lookup.rxWaitsIdle = true) ∧ s.query tag f = s) ∨
    (s.running = true ∧ s.lookup.rxWaitsIdle = false ∧ s.lookup.answer.isSome = true ∧ s.query tag f = s.discardQuery) ∨
    (s.running = true ∧ s.lookup.rxWaitsIdle = false ∧ s.lookup.answer = none ∧
      s.query tag f = { (f s).state with lookup := { (f s).state.lookup with
        answer := some { status := (f s).status, tag := tag, overrun := s.lookup.pendingOverrun, content := (f s).content }
        pendingOverrun := false } }) := by
  unfold State.query
  cases hr : s.running <;> cases hw : s.lookup.rxWaitsIdle <;> cases ha : s.lookup.answer <;> simp

/-- The two outcomes of an expiry row: the expiry occurs, or nothing changes (R9). -/
theorem State.expire_cases (s : State) (h : Handle) (kind : Record → Bool) (f : State → Record → State) :
    s.expire h kind f = s ∨
    ∃ r t, s.running = true ∧ s.record? h = some r ∧ r.timer = some t ∧ t.earliest ≤ s.now ∧ kind r = true ∧
      s.expire h kind f = f s r := by
  unfold State.expire
  cases hr : s.record? h with
  | none => exact .inl rfl
  | some r =>
    cases ht : r.timer with
    | none => exact .inl (by simp [ht])
    | some t =>
      dsimp only
      simp only [ht]
      split
      · rename_i hk
        simp only [Bool.and_eq_true, State.mayExpire, decide_eq_true_eq] at hk
        exact .inr ⟨r, t, hk.1.1, rfl, ht, hk.1.2, hk.2, rfl⟩
      · exact .inl rfl

/-- The three outcomes of an admission after the EXISTS test (R14 to R19). -/
theorem State.place_cases (s : State) (l : LineId) (st : Station) (p : Fin 16) (mask : Option StepSet) (c : Cause) :
    (s.lines[l].quota ≤ s.liveCount l ∧ s.place l st p mask c = .overQuota) ∨
    (s.liveCount l < s.lines[l].quota ∧ s.chooseSlot = none ∧ s.place l st p mask c = .tableFull) ∨
    (s.liveCount l < s.lines[l].quota ∧ ∃ h t, s.chooseSlot = some h ∧ s.place l st p mask c = .placed h t ∧
      (∀ k, k ≠ h → t.slots[k] = s.slots[k]) ∧ t.slots[h].epoch = Epoch.next s.slots[h].epoch ∧
      ∃ r, t.record? h = some r ∧ r.line = l ∧ r.station = st ∧ r.profile = p ∧ r.state = s.firstState l ∧
        r.cause = some c ∧ r.remoteMask = mask ∧ r.agreed = none ∧ r.attempt = none ∧ r.timer = none ∧ r.holds = 0) := by
  unfold State.place
  by_cases hq : s.lines[l].quota ≤ s.liveCount l
  · exact .inl ⟨hq, if_pos hq⟩
  · refine .inr ?_
    rw [if_neg hq]
    cases hc : s.chooseSlot with
    | none => exact .inl ⟨not_le.1 hq, rfl, rfl⟩
    | some h =>
      refine .inr ⟨not_le.1 hq, h, _, rfl, rfl, ?_⟩
      have slots : ∀ r k, (s.allocate h r).slots[k] =
          if h = k then { epoch := Epoch.next s.slots[h].epoch, body := .live r } else s.slots[k] := by
        intro r k
        unfold State.allocate
        dsimp only
        split <;> simp only [State.setNoticeLost, Fin.getElem_fin, Vector.getElem_set, Fin.ext_iff]
      have out : ∀ (t : State) (k : Handle), (if s.lineIsUp l then t.modArbiter l (Arbiter.join h c) else t).slots[k] =
          t.slots[k] := by
        intro t k
        split <;> rfl
      refine ⟨fun k hk => ?_, ?_, ?_⟩
      · rw [out, slots, if_neg (Ne.symm hk)]
      · rw [out, slots, if_pos rfl]
      · refine ⟨_, State.record?_of_body _ (by rw [out, slots, if_pos rfl]), ?_⟩
        split <;> exact ⟨rfl, rfl, rfl, rfl, rfl, rfl, rfl, rfl, rfl, rfl⟩

end Sys2Proof.Machine
end

