-- ==== Sys2Proof/Laws/Pins.lean ====
section
/-! SUPPORT. What the operations of the lanes and of the SPI pins can do, each said once. -/

namespace Sys2Proof.Machine

/-! ### Levels and bytes -/

@[simp] theorem laneBits_length (b : Byte) : (laneBits b).length = 10 := by simp [laneBits]

@[simp] theorem laneLevels_nil : laneLevels [] = [] := rfl

@[simp] theorem laneLevels_cons (b : Byte) (rest : List Byte) : laneLevels (b :: rest) = laneBits b ++ laneLevels rest := by
  simp [laneLevels]

/-- A byte takes ten bit times (R171). -/
@[simp] theorem laneLevels_length (bytes : List Byte) : (laneLevels bytes).length = 10 * bytes.length := by
  induction bytes with
  | nil => rfl
  | cons b rest ih => simp [ih]; omega

/-- The data bits of a byte spell it again (R171). -/
@[simp] theorem byteOfBits_data (b : Byte) : byteOfBits ((List.finRange 8).map fun i : Fin 8 => b.getLsbD i) = b := by
  revert b; decide +kernel

@[simp] theorem frameBytes_length (type : BitVec 4) (st : Station) (payload : BitVec 16) :
    (frameBytes type st payload).length = 5 := by simp [frameBytes]

@[simp] theorem DownFrame.bytes_length (f : DownFrame) : f.bytes.length = 5 := by cases f <;> simp [DownFrame.bytes]

@[simp] theorem Answer.bytes_length (a : Answer) : a.bytes.length = 9 := by
  cases h : a.content <;> simp [Answer.bytes, h]

/-- A bit time of a receive lane leaves no byte under way, or fewer than nine bits of one, or completes one (R169, R171). -/
theorem rxBit_cases (waits : Bool) (data : Option (List Bool)) (level : Bool) :
    rxBit waits data level = (none, none) ∨
    (∃ bits, bits.length ≤ 8 ∧ rxBit waits data level = (some bits, none)) ∨
    ∃ bits, waits = false ∧ data = some bits ∧ 8 ≤ bits.length ∧ rxBit waits data level = (none, some (byteOfBits bits)) := by
  unfold rxBit
  split
  · exact .inl rfl
  split
  · split
    · exact .inl rfl
    · exact .inr (.inl ⟨[], Nat.zero_le 8, rfl⟩)
  · rename_i hw _ bits
    split
    · rename_i n
      exact .inr (.inl ⟨bits ++ [level], by rw [List.length_append, List.length_singleton]; exact n, rfl⟩)
    · rename_i n
      exact .inr (.inr ⟨bits, Bool.eq_false_iff.mpr hw, rfl, Nat.le_of_not_lt n, rfl⟩)

/-! ### Bytes, frames and queries -/

/-- A byte on a report link is not taken, joins the frame under way, or completes it (R62, R169). -/
theorem State.reportByte_cases (s : State) (l : LineId) (b : Byte) :
    (s.hears l = false ∧ s.reportByte l b = .next s) ∨
    (s.hears l = true ∧ s.lines[l].rxBytes.length < 4 ∧
      s.reportByte l b = .next (s.modLine l fun ln => { ln with rxBytes := s.lines[l].rxBytes ++ [b] })) ∨
    (s.hears l = true ∧ 4 ≤ s.lines[l].rxBytes.length ∧
      s.reportByte l b = exec (classifyFrame l (s.lines[l].rxBytes ++ [b]))
        (s.modLine l fun ln => { ln with rxBytes := [] })) := by
  unfold State.reportByte
  cases hh : s.hears l with
  | false => exact .inl ⟨rfl, rfl⟩
  | true =>
    dsimp only [Bool.not_true]
    split
    · rename_i e; exact absurd e Bool.false_ne_true
    split
    · rename_i n
      rw [List.length_append, List.length_singleton, frameLength] at n
      exact .inr (.inl ⟨rfl, by omega, rfl⟩)
    · rename_i n
      rw [List.length_append, List.length_singleton, frameLength] at n
      exact .inr (.inr ⟨rfl, by omega, rfl⟩)

/-- An idle on a report link is the first after a reset, follows a complete frame, or ends a short one (R62, R169). -/
theorem State.reportIdle_cases (s : State) (l : LineId) :
    (s.hears l = false ∧ s.reportIdle l = exec (.idleOfTwoByteTimes (.report l)) s) ∨
    (s.hears l = true ∧ s.lines[l].rxBytes = [] ∧ s.reportIdle l = .next s) ∨
    (s.hears l = true ∧ s.lines[l].rxBytes ≠ [] ∧
      s.reportIdle l = exec (classifyFrame l s.lines[l].rxBytes) (s.modLine l fun ln => { ln with rxBytes := [] })) := by
  unfold State.reportIdle
  cases hh : s.hears l with
  | false => exact .inl ⟨rfl, rfl⟩
  | true =>
    cases hb : s.lines[l].rxBytes with
    | nil => exact .inr (.inl ⟨rfl, rfl, rfl⟩)
    | cons b rest => exact .inr (.inr ⟨rfl, List.cons_ne_nil _ _, rfl⟩)

/-- Fewer than five bytes are no frame (R62). -/
theorem classifyFrame_short (l : LineId) (bytes : List Byte) (n : bytes.length < 5) :
    classifyFrame l bytes = .malformedFrame l := by
  unfold classifyFrame
  split
  · simp only [List.length_cons, List.length_nil] at n; omega
  · rfl

/-- One bit time of a report link's receive lane changes what is received alone, or completes a byte, or an idle (R171). -/
theorem State.reportLevel_cases (s : State) (l : LineId) (b : Bool) :
    (s.running = false ∧ s.reportLevel l b = .next s) ∨
    ∃ bits high, high ≤ 20 ∧ (∀ x ∈ bits, x.length ≤ 8) ∧
      let s1 := s.modLine l fun ln => { ln with rxBits := bits, rxHigh := high }
      s.reportLevel l b = .next s1 ∨ s.reportLevel l b = s1.reportIdle l ∨
        ∃ data, s.lines[l].rxBits = some data ∧ s.reportLevel l b = s1.reportByte l (byteOfBits data) := by
  cases hr : s.running with
  | false => exact .inl ⟨rfl, by simp [State.reportLevel, hr]⟩
  | true =>
    refine .inr ?_
    unfold State.reportLevel
    rcases rxBit_cases s.lines[l].rxWaitsIdle s.lines[l].rxBits b with e | ⟨bits, n, e⟩ | ⟨bits, -, hd, -, e⟩
    · simp only [e, hr, Bool.not_true, Bool.false_eq_true, if_false]
      refine ⟨none, if b && (none : Option (List Bool)).isNone && (none : Option Byte).isNone then
        min (s.lines[l].rxHigh + 1) idleBits else 0, ?_, (fun _ h => nomatch h), ?_⟩
      · split
        · exact Nat.min_le_right _ _
        · exact Nat.zero_le _
      · by_cases c : s.lines[l].rxHigh < idleBits ∧ (if b && (none : Option (List Bool)).isNone &&
            (none : Option Byte).isNone then min (s.lines[l].rxHigh + 1) idleBits else 0) = idleBits
        · exact .inr (.inl (if_pos c))
        · exact .inl (if_neg c)
    · simp only [e, hr, Bool.not_true, Bool.false_eq_true, if_false]
      exact ⟨some bits, 0, Nat.zero_le _, fun x h => Option.some.inj h ▸ n, .inl (by simp [idleBits])⟩
    · simp only [e, hr, Bool.not_true, Bool.false_eq_true, if_false]
      exact ⟨none, 0, Nat.zero_le _, (fun _ h => nomatch h), .inr (.inr ⟨bits, hd, by simp⟩)⟩

/-- One bit time of the lookup link's receive lane changes what is received alone, or completes a byte, or begins an idle (R136,
R172). -/
theorem State.lookupLevel_cases (s : State) (b : Bool) (ahead : List Bool) :
    (s.running = false ∧ s.lookupLevel b ahead = .next s) ∨
    (s.lookup.rxBits = none ∧ idleBegins (b :: ahead) = true ∧ s.lookupLevel b ahead = s.lookupIdleBegins) ∨
    ∃ bits, (∀ x ∈ bits, x.length ≤ 8) ∧
      let s1 := { s with lookup := { s.lookup with rxBits := bits } }
      s.lookupLevel b ahead = .next s1 ∨
        ∃ data, s.lookup.rxBits = some data ∧ s.lookupLevel b ahead = s1.lookupByte (byteOfBits data) := by
  cases hr : s.running with
  | false => exact .inl ⟨rfl, by simp [State.lookupLevel, hr]⟩
  | true =>
    refine .inr ?_
    by_cases h : s.lookup.rxBits = none ∧ idleBegins (b :: ahead) = true
    · exact .inl ⟨h.1, h.2, by simp [State.lookupLevel, hr, h]⟩
    refine .inr ?_
    unfold State.lookupLevel
    rcases rxBit_cases s.lookup.rxWaitsIdle s.lookup.rxBits b with e | ⟨bits, n, e⟩ | ⟨bits, -, hd, -, e⟩
    · simp only [e, hr, Bool.not_true, Bool.false_eq_true, if_false, Bool.and_eq_true, Option.isNone_iff_eq_none, h]
      exact ⟨none, (fun _ h => nomatch h), .inl rfl⟩
    · simp only [e, hr, Bool.not_true, Bool.false_eq_true, if_false, Bool.and_eq_true, Option.isNone_iff_eq_none, h]
      exact ⟨some bits, fun x h => Option.some.inj h ▸ n, .inl rfl⟩
    · simp only [e, hr, Bool.not_true, Bool.false_eq_true, if_false, Bool.and_eq_true, Option.isNone_iff_eq_none, h]
      exact ⟨none, (fun _ h => nomatch h), .inr ⟨bits, hd, rfl⟩⟩

/-- One bit time of a report link's transmit lane sends the next bit of the frame, or completes it, or begins the next frame (R74,
R171). -/
theorem State.reportTxNext_cases (s : State) (l : LineId) :
    (s.lines[l].sending = none ∧ s.reportTxNext l = exec (.frameTransmission l) s) ∨
    ∃ f, s.lines[l].sending = some f ∧
      ((s.running = false ∧ s.reportTxNext l = .next s) ∨
      (s.running = true ∧ s.lines[l].txSent < 49 ∧
        s.reportTxNext l = .next (s.modLine l fun ln => { ln with txSent := ln.txSent + 1 })) ∨
      (s.running = true ∧ 49 ≤ s.lines[l].txSent ∧ s.reportTxNext l = exec (.frameTransmissionComplete l) s)) := by
  unfold State.reportTxNext
  cases hs : s.lines[l].sending with
  | none => exact .inl ⟨rfl, rfl⟩
  | some f =>
    refine .inr ⟨f, rfl, ?_⟩
    cases hr : s.running with
    | false => exact .inl ⟨rfl, rfl⟩
    | true =>
      simp only [Bool.not_true, Bool.false_eq_true, if_false, laneLevels_length, DownFrame.bytes_length]
      split
      · rename_i n; exact .inr (.inl ⟨trivial, by omega, rfl⟩)
      · rename_i n; exact .inr (.inr ⟨trivial, by omega, rfl⟩)

/-- One bit time of the lookup link's transmit lane sends the next bit of the answer, or ends it (R137, R172). -/
theorem State.lookupTxNext_cases (s : State) :
    (s.lookup.answer = none ∧ s.lookupTxNext = .next s) ∨
    ∃ a, s.lookup.answer = some a ∧
      ((s.running = false ∧ s.lookupTxNext = .next s) ∨
      (s.running = true ∧ s.lookup.txSent < 89 ∧
        s.lookupTxNext = .next { s with lookup := { s.lookup with txSent := s.lookup.txSent + 1 } }) ∨
      (s.running = true ∧ 89 ≤ s.lookup.txSent ∧ s.lookupTxNext = exec .answerSent s)) := by
  unfold State.lookupTxNext
  cases hs : s.lookup.answer with
  | none => exact .inl ⟨rfl, rfl⟩
  | some a =>
    refine .inr ⟨a, rfl, ?_⟩
    cases hr : s.running with
    | false => exact .inl ⟨rfl, rfl⟩
    | true =>
      simp only [Bool.not_true, Bool.false_eq_true, if_false, laneLevels_length, Answer.bytes_length]
      split
      · rename_i n; exact .inr (.inl ⟨trivial, by omega, rfl⟩)
      · rename_i n; exact .inr (.inr ⟨trivial, by omega, rfl⟩)

/-- CSn falling reaches the port only while CSn is high (R173). -/
theorem State.spiSelect_cases (s : State) :
    (s.spi = .idle ∧ s.spiSelect = { s with spi := if s.running then .header [] else .skipped }) ∨
    (s.spi ≠ .idle ∧ s.spiSelect = s) := by
  unfold State.spiSelect
  split
  · rename_i e; exact .inl ⟨e, rfl⟩
  · rename_i n; exact .inr ⟨n, rfl⟩

/-- A reset leaves CSn as it stands and no transaction (R157, R168). -/
theorem Spi.cut_eq (x : Spi) : x.cut = if x = .idle then .idle else .skipped := by
  cases x <;> simp [Spi.cut]

@[simp] theorem Spi.cut_cut (x : Spi) : x.cut.cut = x.cut := by cases x <;> rfl

/-- An SCK cycle changes no state but the transaction, unless it completes a data word of a write (R157, R173). -/
theorem State.spiClock_cases (s : State) (b : Bool) :
    (∃ x, s.spiClock b = .next { s with spi := x }) ∨
    ∃ a bits, s.spi = .writing a bits ∧ 15 ≤ bits.length ∧
      s.spiClock b = exec (.registerWrite a (wordOfBits (bits ++ [b]))) { s with spi := .writing (spiNext a) [] } := by
  unfold State.spiClock
  split
  · exact .inl ⟨_, rfl⟩
  · exact .inl ⟨_, rfl⟩
  · dsimp only
    split
    · exact .inl ⟨_, rfl⟩
    · exact .inl ⟨_, rfl⟩
  · rename_i a bits e
    dsimp only
    split
    · exact .inl ⟨_, rfl⟩
    · rename_i n
      rw [List.length_append, List.length_singleton] at n
      exact .inr ⟨a, bits, e, by omega, rfl⟩
  · exact .inl ⟨_, rfl⟩

end Sys2Proof.Machine
end

