-- ==== Sys2Proof/Laws/Words.lean ====
section
/-! SUPPORT. The fields of the words FLAGS, CAUSE and CTRL, each bit by its place (Table 13-6). -/

namespace Sys2Proof.Machine

/-- Six flags as a word, bit by bit. -/
theorem sixFlags_bit (f0 f1 f2 f3 f4 f5 : Bool) (i : Fin 16) :
    ((BitVec.ofBool f5 ++ BitVec.ofBool f4 ++ BitVec.ofBool f3 ++ BitVec.ofBool f2 ++ BitVec.ofBool f1 ++
      BitVec.ofBool f0 : BitVec 6).setWidth 16).getLsbD i =
      match i.val with
      | 0 => f0
      | 1 => f1
      | 2 => f2
      | 3 => f3
      | 4 => f4
      | 5 => f5
      | _ => false := by
  revert i
  cases f0 <;> cases f1 <;> cases f2 <;> cases f3 <;> cases f4 <;> cases f5 <;> decide

/-- The bits of FLAGS (Table 13-6). -/
theorem State.flagsWord_bit (s : State) (i : Fin 16) :
    s.flagsWord.getLsbD i = match i.val with
      | 0 => s.lineEvent
      | 1 => s.flags.tableFull
      | 2 => s.flags.noticeLost
      | 3 => s.changePending
      | 4 => s.flags.lookupOverrun
      | 5 => s.flags.commandDone
      | _ => false :=
  sixFlags_bit _ _ _ _ _ _ i

/-- A mask, five zeros and a code as a word. -/
theorem maskAndCode (a : BitVec 8) (b : BitVec 3) :
    (a ++ (0 : BitVec 5) ++ b : Word).extractLsb' 0 3 = b ∧ (a ++ (0 : BitVec 5) ++ b : Word).extractLsb' 3 5 = 0 ∧
      ∀ l : Fin 8, (a ++ (0 : BitVec 5) ++ b : Word).getLsbD (8 + l.val) = a.getLsbD l := by
  revert a b
  decide +kernel

theorem State.causeWord_code (s : State) : s.causeWord.extractLsb' 0 3 = s.causeCode := (maskAndCode _ _).1

theorem State.causeWord_zero (s : State) : s.causeWord.extractLsb' 3 5 = 0 := (maskAndCode _ _).2.1

theorem State.causeWord_line (s : State) (l : LineId) :
    s.causeWord.getLsbD (8 + l.val) = decide (s.lines[l].changes ≠ 0) := by
  refine ((maskAndCode _ _).2.2 l).trans ?_
  simp only [State.lineMask, BitVec.getLsbD_ofFnLE, l.isLt, dif_pos]

/-- CTRL: GO in bit 15, the result status in bits 3 to 0 (Table 13-6). -/
theorem goAndStatus (g : Bool) (st : BitVec 4) :
    (bit g ++ (0 : BitVec 11) ++ st : Word).getLsbD 15 = g ∧ (bit g ++ (0 : BitVec 11) ++ st : Word).extractLsb' 0 4 = st ∧
      (bit g ++ (0 : BitVec 11) ++ st : Word).extractLsb' 4 11 = 0 := by
  revert g st
  decide

end Sys2Proof.Machine
end

