-- ==== Sys2Proof/Tests/Slice0.lean ====
section
/-! SUPPORT. Tests: small states, one command each, and the states that meet the hypotheses of every obligation. -/

namespace Sys2Proof.Tests

set_option Elab.async false

open Sys2Proof.Machine

/-! ### Small states -/

/-- After reset, every receiver has found its first idle (R169). -/
def awake : State := { State.reset with
  lines := Vector.replicate 8 { Line.reset with rxWaitsIdle := false }
  lookup := { LookupPort.reset with rxWaitsIdle := false } }

/-- `awake` with line 2 in a state, its silence timer running where R65 has it run. -/
def lineIn (st : LineState) : State := awake.modLine 2 fun ln => { ln with
  state := st, ceiling := 8, mode := .opened
  silence := if st = .down ∨ st = .up then some { start := 0, duration := 200 } else none }

/-- A record of station 010Ah on line 2 under P0, as a run leaves one in each state. -/
def recIn (st : RecState) : Record := { createdRecord 2 0x10A 0 (some 0x0FF) st .initial 0 with
  cause := match st with
    | .agreed => none
    | .holdover => none
    | .retiring => none
    | _ => some .initial
  attempt := match st with
    | .negotiating => some { phase := .offered, offer := 0x1FF, rerun := false }
    | _ => none
  agreed := match st with
    | .agreed => some 7
    | .holdover => some 7
    | _ => none
  generation := 1
  carrier := match st with
    | .holdover => .down
    | _ => .up
  holds := match st with
    | .retiring => 1
    | _ => 0
  timer := match st with
    | .negotiating => some { start := 0, duration := 500 }
    | .holdover => some { start := 0, duration := 2000 }
    | .backoff => some { start := 0, duration := 250 }
    | .retiring => some { start := 0, duration := 30000 }
    | _ => none }

/-- The record in phase ORDERED, at S8. -/
def ordered : Record := { recIn .negotiating with
  attempt := some { phase := .ordered 7, offer := 0x1FF, rerun := false }
  timer := some { start := 0, duration := 100 } }

/-- A table whose slot 0 is given and whose other slots are as after reset. -/
def slot0 (x : Slot) : Vector Slot 256 := (Vector.replicate 256 { epoch := 0, body := .free }).set 0 x

/-- One record in slot 0 with epoch 3, its line UP, and its arbiter as its state asks. -/
def one (r : Record) : State :=
  { lineIn .up with slots := slot0 { epoch := 3, body := .live r } }.modArbiter 2 fun a =>
    match r.state with
    | .negotiating => { a with grant := some 0 }
    | .waiting => { a with normal := [0] }
    | _ => a

/-- A vacated slot 0 with epoch 3 and a change set. -/
def vacated (changes : BitVec 5) : State :=
  { lineIn .up with slots := slot0 { epoch := 3, body := .vacated 2 0x10A changes } }

/-- A lookup port with an answer in hand. -/
def busyPort : State := { awake with lookup := { awake.lookup with
  answer := some { status := .notFound, tag := 3, overrun := false, content := none } } }

/-- Every slot alike, with epoch 4095. -/
def filled (b : SlotBody) : State := { lineIn .up with slots := Vector.replicate 256 { epoch := 4095, body := b } }

/-- A state at a later moment of its time base. -/
def later (n : Nat) (s : State) : State := { s with now := n }

/-- Every record state. -/
def states : List RecState :=
  [.parked, .waiting, .negotiating, .agreed, .holdover, .backoff, .failed, .retiring]

theorem slot0_get (x : Slot) (h : Handle) :
    (slot0 x)[h] = if h = 0 then x else { epoch := 0, body := .free } := by
  show ((Vector.replicate 256 _).set 0 x)[h.val] = _
  rw [Vector.getElem_set, Vector.getElem_replicate]
  by_cases k : h = 0
  · subst k; rfl
  · rw [if_neg k, if_neg fun e => k (Fin.ext e.symm)]

theorem one_record? (r : Record) (h : Handle) : (one r).record? h = if h = 0 then some r else none := by
  have e : (one r).slots[h] = _ := slot0_get _ h
  unfold State.record?
  rw [e]
  by_cases k : h = 0
  · rw [if_pos k, if_pos k]
  · rw [if_neg k, if_neg k]

theorem one_keysUnique (r : Record) : (one r).KeysUnique := by
  intro h q hq
  have hq : (one r).record? h = some q := hq
  rw [one_record?] at hq
  split at hq
  · cases hq
    subst_vars
    unfold State.findKey
    rw [List.finRange_succ]
    refine List.find?_cons_of_pos ?_
    show decide (r.line = r.line ∧ r.station = r.station) = true
    simp only [and_self, decide_true]
  · cases hq

theorem lineIn_record? (st : LineState) (h : Handle) : (lineIn st).record? h = none := by
  have e : (lineIn st).slots[h] = { epoch := 0, body := .free } := by
    show (Vector.replicate 256 _)[h.val] = _
    exact Vector.getElem_replicate ..
  unfold State.record?
  rw [e]

theorem one_noKey (r : Record) (l : LineId) (st : Station) (n : ¬(r.line = l ∧ r.station = st)) :
    ¬(one r).keyLive l st := by
  rintro ⟨h, q, hq, hk⟩
  have hq : (one r).record? h = some q := hq
  rw [one_record?] at hq
  split at hq
  · cases hq; exact n hk
  · cases hq

theorem filled_slot (b : SlotBody) (h : Handle) : (filled b).slots[h] = { epoch := 4095, body := b } := by
  show (Vector.replicate 256 _)[h.val] = _
  exact Vector.getElem_replicate ..

theorem filled_noKey (b : SlotBody) (l : LineId) (st : Station) (n : b.hasKey l st = false) :
    ¬(filled b).keyLive l st := by
  rintro ⟨h, r, hr, hk⟩
  have hr : (filled b).record? h = some r := hr
  unfold State.record? at hr
  rw [filled_slot] at hr
  cases b with
  | live q => cases hr; exact absurd hk (of_decide_eq_false n)
  | free => cases hr
  | vacated _ _ _ => cases hr

theorem filled_liveCount (b : SlotBody) (l : LineId) (n : b.isLiveOf l = false) : (filled b).liveCount l = 0 := by
  unfold State.liveCount
  rw [List.countP_eq_zero]
  intro h _
  rw [filled_slot, n]
  decide

/-! ### The checks of wellFormed, each with a command that it refuses -/

theorem test_wellFormed_unknownCommand : (Instr.unknownCommand 0x3F).wellFormed = false := by decide
theorem test_wellFormed_registerWrite : (Instr.registerWrite 0x02 0x8000).wellFormed = false := by decide
theorem test_wellFormed_lookupFind : (Instr.lookupFind 0 8 0).wellFormed = false := by decide
theorem test_wellFormed_peek : (Instr.peek 0 256 1).wellFormed = false := by decide
theorem test_wellFormed_hold : (Instr.hold 0 511 1).wellFormed = false := by decide
theorem test_wellFormed_release : (Instr.release 0 256 1).wellFormed = false := by decide
theorem test_wellFormed_accepts : (Instr.unknownCommand 0x0A).wellFormed = true ∧
    (Instr.registerWrite 0x16 1).wellFormed = true ∧ (Instr.lookupFind 0 7 0).wellFormed = true ∧
    (Instr.peek 0 255 1).wellFormed = true := by decide

/-! ### States that meet the hypotheses of the obligations -/

/-- The facts most hypotheses ask of a state with one record, in every record state. -/
theorem one_ready : ∀ st ∈ states, (one (recIn st)).ready ∧ (one (recIn st)).hears 2 = true ∧
    (one (recIn st)).lineIsUp 2 = true ∧ (one (recIn st)).isValid 0 = true := by decide +kernel

theorem one_names (r : Record) : (one r).names 0 3 r :=
  ⟨by decide, rfl, by rw [one_record?]; rfl⟩

theorem one_hasRecord (r : Record) : (one r).hasRecord 0 r r.line r.station :=
  ⟨by rw [one_record?]; rfl, rfl, rfl⟩

theorem witness_StepRunsFrontCommand :
    ({ awake with pending := [.ident, .clearTable] } : State).pending = .ident :: [.clearTable] := rfl

/-- An AGREED record and a DOWN line: the timer of the line is not due at 0 ms. -/
theorem witness_StepOnEmptyQueue : (one (recIn .agreed)).pending = [] ∧ (one (recIn .agreed)).running = true ∧
    (recIn .agreed).AttemptOk ∧ (recIn .agreed).TimerOk ∧
    busyPort.nextInternal = some .answerSent := by decide +kernel

theorem witness_StepOnEmptyQueue_none : (lineIn .down).pending = [] ∧ (lineIn .down).nextInternal = none := by
  have e : (List.finRange 256).findSome? (lineIn .down).dueExpiry = none := by
    rw [List.findSome?_eq_none_iff]
    intro h _
    unfold State.dueExpiry
    rw [lineIn_record?]
  have e0 : (List.finRange 256).findSome? (lineIn .down).zeroExpiry = none := by
    rw [List.findSome?_eq_none_iff]
    intro h _
    unfold State.zeroExpiry
    rw [lineIn_record?]
  have e1 : (List.finRange 8).find? (fun l => (lineIn .down).lines[l].sending.isSome) = none := by decide +kernel
  have e2 : (List.finRange 8).find? (fun l => !(lineIn .down).lines[l].txQueue.isEmpty) = none := by decide +kernel
  have e3 : (List.finRange 8).find? (fun l => (lineIn .down).isDue (lineIn .down).lines[l].silence) = none := by
    decide +kernel
  refine ⟨rfl, ?_⟩
  unfold State.nextInternal
  rw [if_neg (by decide +kernel), e0]
  dsimp only
  rw [if_neg (by decide +kernel), e1, e2]
  dsimp only
  rw [e, e3]
  rfl

/-- A HOLDOVER record whose profile gave it no time (R9). -/
theorem witness_StepOnEmptyQueue_zero :
    let r := { recIn .holdover with timer := some { start := 0, duration := 0 } }
    (one r).pending = [] ∧ (one r).running = true ∧ (r.AttemptOk ∧ r.TimerOk) ∧
    (one r).record? 0 = some r ∧ (∃ tm ∈ r.timer, tm.duration = 0) :=
  ⟨rfl, rfl, by decide, (one_record? _ 0).trans rfl, _, rfl, rfl⟩

theorem witness_ResetHoldsThePart :
    (awake.after .powerOn).running = false ∧ (awake.after .resetn).running = false ∧
    (awake.after .powerOn).HeldOk ∧ (awake.after .resetn).HeldOk ∧ isResetEvent .ident = false :=
  ⟨rfl, rfl, fun _ => rfl, fun _ => rfl, rfl⟩

theorem witness_ReceiversWaitForIdle :
    State.reset.running = true ∧
    frameLine? (.malformedFrame 7) = some 7 ∧ State.reset.lines[(7 : LineId)].rxWaitsIdle = true ∧
    frameLine? (.lineUp 0 11) = some 0 ∧ State.reset.lines[(0 : LineId)].rxWaitsIdle = true ∧
    queryTag? (.peek 15 0 1) = some 15 ∧ State.reset.lookup.rxWaitsIdle = true := by decide +kernel

/-- Both receivers hear, with no byte of a frame or query under way; a held part hears nothing. -/
theorem witness_ReceiversWaitForIdle_bytes :
    (lineIn .up).hears 2 = true ∧ (lineIn .up).lines[(2 : LineId)].rxBytes = [] ∧ State.reset.hears 2 = false ∧
    awake.running = true ∧ awake.lookup.rxWaitsIdle = false ∧ awake.lookup.rxBytes = [] ∧
    ([1, 2, 3, 4] : List Byte).length < 5 ∧ ([2, 3, 4] : List Byte).length < 4 := by decide +kernel

/-- Receive lanes between bytes, with idle not yet, nearly and fully counted; receivers that wait; a part that is held. -/
theorem witness_ReceiversWaitForIdle_levels :
    awake.running = true ∧ awake.lines[(2 : LineId)].rxWaitsIdle = false ∧ awake.lines[(2 : LineId)].rxBits = none ∧
    awake.lines[(2 : LineId)].rxHigh = 0 ∧ (0 : Nat) < 20 ∧ (19 : Nat) < 20 ∧
    (awake.modLine 2 fun ln => { ln with rxHigh := 20 }).lines[(2 : LineId)].rxHigh = 20 ∧
    State.reset.running = true ∧ State.reset.lines[(2 : LineId)].rxWaitsIdle = true ∧
    State.reset.lines[(2 : LineId)].rxBits = none ∧ State.reset.lookup.rxBits = none ∧
    State.reset.lookup.rxWaitsIdle = true ∧ (awake.after .resetn).running = false := by decide +kernel

/-- A BUSY port with a query of one byte, and of four, under way where an idle of two byte times begins. -/
theorem witness_ReceiversWaitForIdle_busy : ∀ got ∈ ([[0x35], [0x35, 0, 0x50, 1]] : List (List Byte)),
    let s := { busyPort with lookup := { busyPort.lookup with rxBytes := got } }
    s.running = true ∧ s.lookup.rxBits = none ∧ s.lookup.rxWaitsIdle = false ∧ s.lookup.answer.isSome = true ∧
    s.lookup.rxBytes ≠ [] ∧ s.lookup.rxBytes.length < 5 ∧
    (List.replicate 19 true).take 19 = List.replicate 19 true ∧
    ¬(List.replicate 18 true).take 19 = List.replicate 19 true := by decide +kernel

theorem witness_FlagsWriteClearsStickyFlags : awake.running = true := rfl

theorem witness_WindowWrites : awake.running = true ∧ awake.port.go = false ∧
    ∀ a ∈ ([0x00, 0x01, 0x06, 0x0E, 0x15, 0x16, 0x1F] : List (BitVec 5)),
      (Instr.registerWrite a 0xFFFF).wellFormed = true := by decide +kernel

theorem witness_WindowWrites_ctrl : (Instr.registerWrite 0x02 0x7FFF).wellFormed = true := by decide

/-- The SPI port in each of its situations; the part takes events. -/
theorem witness_WindowWrites_spi : awake.spi = .idle ∧ ({ awake with spi := .skipped } : State).spi = .skipped ∧
    ({ awake with spi := .header [] } : State).spi = .header [] ∧
    ({ awake with spi := .writing 0x1F [] } : State).spi = .writing 0x1F [] ∧
    ({ awake with spi := .reading 0 0 0 } : State).spi = .reading 0 0 0 ∧
    ((bitsOfWord 0xFFFF).take 15).length < 16 ∧ (0x8000 : Word).getLsbD 15 = true := by decide

/-- A sweep of P1 that has just begun. -/
def sweeping (r : Record) (cursor : Nat) : State := { one r with
  profiles := (one r).profiles.set 1 (some { Profile.factory with cap := 5 })
  sweep := some { profile := 1, cursor := cursor, visited := 0, requeued := 0, parked := 0, rerun := 0 }
  port := { HostPort.reset with go := true } }

theorem witness_BusyMailboxRefuses : (sweeping (recIn .agreed) 0).running = true ∧
    (sweeping (recIn .agreed) 0).port.go = true ∧ hostCommand? .clearTable = some (0x30, []) :=
  ⟨rfl, rfl, rfl⟩

theorem witness_WindowReads : awake.running = true ∧ 0x16 ≤ (0x16 : BitVec 5).toNat ∧
    0x16 ≤ (0x1F : BitVec 5).toNat := by decide

theorem witness_HostCommandsCompleteOrChangeNothing : awake.ready ∧
    hostCommand? .ident = some (0x3F, []) ∧ (0x3F : Word) ≠ 0x12 ∧
    hostCommand? (.unknownCommand 0) = some (0, []) ∧
    ∃ t, exec (.unknownCommand 0) awake = .next t ∧ t.port.status ≠ Status.ok.code :=
  ⟨⟨rfl, rfl⟩, rfl, by decide, rfl, _, rfl, by decide +kernel⟩

theorem witness_HostCommandsCompleteOrChangeNothing_full :
    (one (recIn .parked)).ready ∧ ∃ t, exec (.profileCommit 16) (one (recIn .parked)) = .next t ∧
      t.port.status ≠ Status.ok.code :=
  ⟨⟨rfl, rfl⟩, _, rfl, by decide +kernel⟩

theorem witness_HostCommandsCompleteOrChangeNothing_words :
    (one (recIn .agreed)).ready ∧ hostCommand? (.lineConfig 1 2 0 0 5) = some (0x20, [1, 2, 0, 0, 5]) := ⟨⟨rfl, rfl⟩, rfl⟩

theorem witness_BadArgumentsAndPairsAreRefused_ranges :
    ∀ c ∈ ([.find 8 0, .find 0 4096, .read 256, .cap 0 1 13, .retire 0 1 6001, .retire 0 1 0xFFFD,
        .ackChange 0 1 32, .profileStage 14 0, .profileRead 17 0, .ladderRead 0 0, .ladderRead 0 13,
        .lineConfig 0 65 0 0 1, .lineConfig 0 0 0 0 0, .lineAck 8 0] : List Instr),
      hostArgsInRange c = false ∧ (hostCommand? c).isSome = true := by decide

theorem witness_BadArgumentsAndPairsAreRefused_pairs (e : Epoch) (he : e = 0 ∨ e = 2) :
    (one (recIn .agreed)).ready ∧ (one (recIn .agreed)).isValid 0 = true ∧
    hostArgsInRange (.retire (handleWord 0) (e.setWidth 16) 6000) = true ∧
    ∀ r, ¬(one (recIn .agreed)).names 0 e r := by
  refine ⟨⟨rfl, rfl⟩, rfl, ?_, ?_⟩
  · rcases he with rfl | rfl <;> decide
  · rintro r ⟨h1, h2, -⟩
    have h2 : (3 : Epoch) = e := h2
    rcases he with rfl | rfl
    · exact h1 rfl
    · exact absurd h2 (by decide)

theorem witness_BadArgumentsAndPairsAreRefused_retiring :
    (one (recIn .retiring)).ready ∧ (one (recIn .retiring)).names 0 3 (recIn .retiring) ∧
    (recIn .retiring).state = .retiring := ⟨⟨rfl, rfl⟩, one_names _, rfl⟩

/-- The ABANDON of the record in slot 0 meets a transmit queue of 128 frames. -/
theorem witness_ClearTableEmptiesTheTable_full :
    let s := (one (recIn .agreed)).modLine 2 fun ln => { ln with txQueue := List.replicate 128 .reset }
    s.ready ∧ Config.txQueueDepth - s.lines[(2 : LineId)].txQueue.length = 0 ∧ s.record? 0 = some (recIn .agreed) ∧
    (recIn .agreed).line = 2 ∧ (recIn .agreed).state = .agreed :=
  ⟨⟨rfl, rfl⟩, by decide +kernel, (one_record? _ 0).trans rfl, rfl, rfl⟩

theorem witness_IdentAndUnknownCommand : awake.ready ∧ (Instr.unknownCommand 0).wellFormed = true ∧
    (Instr.unknownCommand 0xFFFF).wellFormed = true := by decide +kernel

theorem witness_FindReturnsTheRecordOfAKey :
    (one (recIn .agreed)).ready ∧ (one (recIn .agreed)).KeysUnique ∧
    (one (recIn .agreed)).hasRecord 0 (recIn .agreed) 2 0x10A ∧ ¬(one (recIn .agreed)).keyLive 2 0x10B :=
  ⟨⟨rfl, rfl⟩, one_keysUnique _, one_hasRecord _, one_noKey _ _ _ (by decide)⟩

theorem witness_ReadReportsASlot :
    (one (recIn .agreed)).ready ∧ (one (recIn .agreed)).slots[(0 : Handle)].body = .live (recIn .agreed) ∧
    (one (recIn .agreed)).slots[(255 : Handle)].body = .free ∧
    (vacated 31).slots[(0 : Handle)].body = .vacated 2 0x10A 31 ∧
    { recIn .retiring with holds := 15 }.HoldsOk ∧ { recIn .failed with attempts := 8 }.AttemptsOk ∧
    { recIn .agreed with riseCount := 15 }.QualityCountsOk := by decide +kernel

theorem witness_AdmitTestsAndCreates_tests :
    (one (recIn .agreed)).ready ∧ (one (recIn .agreed)).isValid 0 = true ∧ (one (recIn .agreed)).isValid 1 = false ∧
    (one (recIn .agreed)).keyLive 2 0x10A ∧ ¬(one (recIn .agreed)).keyLive 0 0 :=
  ⟨⟨rfl, rfl⟩, rfl, rfl, ⟨0, _, (one_hasRecord _).1, rfl, rfl⟩, one_noKey _ _ _ (by decide)⟩

theorem witness_AdmitTestsAndCreates_quota :
    ((lineIn .up).modLine 2 fun ln => { ln with quota := 0 }).lines[(2 : LineId)].quota ≤
      ((lineIn .up).modLine 2 fun ln => { ln with quota := 0 }).liveCount 2 := Nat.zero_le _

theorem witness_AdmitTestsAndCreates_full :
    let s := filled (.live (recIn .parked))
    s.ready ∧ s.isValid 0 = true ∧ ¬s.keyLive 0 0 ∧ s.liveCount 0 < s.lines[(0 : LineId)].quota ∧
      ∀ h : Handle, s.slots[h].body.isLive = true :=
  ⟨⟨rfl, rfl⟩, rfl, filled_noKey _ _ _ (by decide), by rw [filled_liveCount _ _ (by decide)]; decide +kernel,
    fun h => by rw [filled_slot]; rfl⟩

theorem witness_AdmitTestsAndCreates_free :
    let s := filled .free
    s.ready ∧ s.isValid 0 = true ∧ ¬s.keyLive 2 4095 ∧ s.liveCount 2 < s.lines[(2 : LineId)].quota ∧ s.chooses 0 :=
  ⟨⟨rfl, rfl⟩, rfl, filled_noKey _ _ _ rfl, by rw [filled_liveCount _ _ rfl]; decide +kernel,
    .inl ⟨by rw [filled_slot]; rfl, fun k hk => absurd hk (Fin.not_lt_zero k)⟩⟩

theorem witness_AdmitTestsAndCreates_vacated :
    let s := filled (.vacated 7 4095 1)
    s.ready ∧ s.isValid 0 = true ∧ ¬s.keyLive 2 0 ∧ s.liveCount 2 < s.lines[(2 : LineId)].quota ∧ s.chooses 0 :=
  ⟨⟨rfl, rfl⟩, rfl, filled_noKey _ _ _ rfl, by rw [filled_liveCount _ _ rfl]; decide +kernel,
    .inr ⟨fun k => by rw [filled_slot]; rfl, by rw [filled_slot]; rfl, fun k hk => absurd hk (Fin.not_lt_zero k)⟩⟩

/-- Every state but RETIRING is one in which a record may be bound, capped, renegotiated or retired. -/
theorem one_live : ∀ st ∈ states, st ≠ .retiring → (recIn st).state ≠ .retiring ∧ (one (recIn st)).ready := by
  decide +kernel

theorem witness_RebindBindsAndTests : (one (recIn .agreed)).ready ∧ (one (recIn .agreed)).isValid 0 = true ∧
    (one (recIn .agreed)).names 0 3 (recIn .agreed) ∧ (recIn .agreed).state ≠ .retiring :=
  ⟨⟨rfl, rfl⟩, rfl, one_names _, by decide⟩

/-- P1 is INVALID, whatever the pair. -/
theorem witness_RebindBindsAndTests_invalid : (one (recIn .agreed)).ready ∧ (one (recIn .agreed)).isValid 1 = false ∧
    (one (recIn .agreed)).isValid 15 = false := ⟨⟨rfl, rfl⟩, rfl, rfl⟩

theorem witness_CapSetsTheOverride :
    (one (recIn .agreed)).names 0 3 (recIn .agreed) ∧ (∃ k ∈ (recIn .agreed).agreed, ∃ c ∈ some (6 : Step), c < k) ∧
    ¬(∃ k ∈ (recIn .agreed).agreed, ∃ c ∈ some (7 : Step), c < k) ∧
    (one (recIn .waiting)).names 0 3 (recIn .waiting) ∧ (0 : Handle) ∈ (one (recIn .waiting)).arbiters[(2 : LineId)].normal ∧
    (one (recIn .negotiating)).names 0 3 (recIn .negotiating) ∧ (one (recIn .failed)).names 0 3 (recIn .failed) := by
  refine ⟨one_names _, ⟨7, rfl, 6, rfl, by decide⟩, ?_, one_names _, ?_, one_names _, one_names _⟩
  · rintro ⟨k, hk, c, hc, hl⟩
    cases hk
    cases hc
    exact absurd hl (by decide)
  · decide +kernel

/-- A WAITING record that kept its agreed step, in the normal class. -/
def waitingAgreed : Record := { recIn .waiting with agreed := some 7, cause := some .host }

theorem witness_CapSetsTheOverride_classMove : (one waitingAgreed).names 0 3 waitingAgreed ∧
    waitingAgreed.state = .waiting ∧ waitingAgreed.agreed = some 7 ∧
    (0 : Handle) ∈ (one waitingAgreed).arbiters[(2 : LineId)].normal :=
  ⟨one_names _, rfl, rfl, by decide +kernel⟩

theorem witness_RenegotiateByState : ∀ st ∈ states,
    (one (recIn st)).ready ∧ (recIn st).state = st ∧ (one (recIn st)).lineIsUp 2 = true := by decide +kernel

theorem witness_RenegotiateByState_lineDown :
    ((one (recIn .agreed)).modLine 2 fun ln => { ln with state := .down }).ready ∧
    ((one (recIn .agreed)).modLine 2 fun ln => { ln with state := .down }).lineIsUp 2 = false ∧
    (recIn .backoff).cause = some .initial := by decide +kernel

theorem witness_RetireDetachesAndEnds :
    (one (recIn .agreed)).names 0 3 (recIn .agreed) ∧ (recIn .agreed).holds = 0 ∧
    ((0 : Word).toNat ≤ 6000 ∧ (6000 : Word).toNat ≤ 6000) ∧
    recorded (recIn .agreed).changes (kindRate ||| kindRetired) Profile.factory ≠ 0 ∧
    recorded (recIn .failed).changes kindRetired { Profile.factory with notifyMask := 0 } = 0 ∧
    (one { recIn .agreed with holds := 15 }).names 0 3 { recIn .agreed with holds := 15 } :=
  ⟨one_names _, rfl, by decide, by decide, by decide, one_names _⟩

theorem witness_NextChangeAndAckChange_next :
    (vacated 1).ready ∧ (vacated 1).slots[(0 : Handle)].body = .vacated 2 0x10A 1 ∧
    (∀ k : Handle, 1 ≤ k → (vacated 1).slots[k].body.changes = 0) ∧
    (one { recIn .agreed with changes := 16 }).slots[(0 : Handle)].body.changes ≠ 0 := by
  refine ⟨⟨rfl, rfl⟩, rfl, fun k hk => ?_, by decide +kernel⟩
  have e : (vacated 1).slots[k] = _ := slot0_get _ k
  rw [e, if_neg (by rintro rfl; exact absurd hk (by decide))]
  rfl

theorem witness_NextChangeAndAckChange_ack :
    (one (recIn .agreed)).slots[(0 : Handle)].epoch ≠ 2 ∧ (one (recIn .agreed)).slots[(1 : Handle)].body = .free ∧
    (one (recIn .agreed)).names 0 3 (recIn .agreed) ∧
    (vacated 3).slots[(0 : Handle)].epoch = 3 ∧ (vacated 3).slots[(0 : Handle)].body = .vacated 2 0x10A 3 ∧
    (3 : BitVec 5) &&& ~~~1 ≠ 0 ∧ (3 : BitVec 5) &&& ~~~3 = 0 :=
  ⟨by decide +kernel, by decide +kernel, one_names _, rfl, rfl, by decide, by decide⟩

theorem witness_ClearTableEmptiesTheTable : (one (recIn .agreed)).ready := ⟨rfl, rfl⟩

theorem witness_StagingCommands : awake.ready ∧
    (∀ x ∈ ([(0, 0), (0, 4095), (1, 1), (1, 12), (7, 6000), (8, 5), (8, 500), (12, 0xFFFF), (13, 31)] : List (Nat × Nat)),
      hostArgsInRange (.profileStage (wordOf x.1) (wordOf x.2)) = true) ∧
    awake.profiles[(0 : Fin 16)] = some Profile.factory ∧ awake.profiles[(15 : Fin 16)] = none := by decide +kernel

/-- `awake` with a staging profile. -/
def staged (p : Profile) : State := { awake with staging := p }

theorem witness_ProfileCommitValidatesAndStarts :
    (staged { Profile.factory with offerMask := 0 }).ready ∧
    (∀ k : Step, ¬StepSet.has (0 : StepSet) k = true) ∧
    ((∃ k : Step, StepSet.has (0x001 : StepSet) k = true) ∧
      ∀ k : Step, StepSet.has (0x001 : StepSet) k = true → k < (1 : Step)) ∧
    ((∃ k : Step, StepSet.has (0x800 : StepSet) k = true ∧ (11 : Step) ≤ k) ∧ (10 : Step) < 11) ∧
    ((∃ k : Step, StepSet.has (0x800 : StepSet) k = true ∧ (11 : Step) ≤ k) ∧ (11 : Step) ≤ 11) := by decide +kernel

theorem witness_SweepVisitsSlotBySlot :
    (sweeping (recIn .agreed) 0).running = true ∧
    (sweeping (recIn .agreed) 0).sweep = some { profile := 1, cursor := 0, visited := 0, requeued := 0, parked := 0, rerun := 0 } ∧
    (∀ st ∈ states, (sweeping { recIn st with profile := 1 } 0).record? 0 = some { recIn st with profile := 1 }) ∧
    (sweeping (recIn .agreed) 255).record? 255 = none ∧
    (∃ k ∈ (recIn .agreed).agreed, nonCompliant { Profile.factory with cap := 5 } k = true) ∧
    256 ≤ (256 : Nat) := by
  refine ⟨rfl, rfl, fun st _ => ?_, ?_, ⟨7, rfl, by decide⟩, le_rfl⟩
  · exact (one_record? { recIn st with profile := 1 } 0).trans rfl
  · exact (one_record? (recIn .agreed) 255).trans rfl

theorem witness_SweepLeavesNoBreach : (sweeping (recIn .agreed) 0).running = true ∧
    ∃ w, (sweeping (recIn .agreed) 0).sweep = some w ∧ w.cursor = 0 := ⟨rfl, _, rfl, rfl⟩

theorem witness_LadderCommands : awake.ready ∧
    (∀ x ∈ ([(0, 19, 20), (1, 19, 8), (1, 61, 32), (1, 40, 11), (1, 60, 53)] : List (Fin 12 × Nat × Nat)),
      (Ladder.failedTest Ladder.factory x.1
        { rise := BitVec.ofNat 8 x.2.1, fall := BitVec.ofNat 8 x.2.2 }).isSome = true) ∧
    Ladder.failedTest Ladder.factory 0 { rise := 40, fall := 0 } = none ∧
    Ladder.failedTest Ladder.factory 11 { rise := 255, fall := 255 } = none := by decide +kernel

theorem witness_LineConfigAndLineAck : awake.ready ∧ awake.isValid 0 = true ∧ awake.isValid 1 = false ∧
    (0 : Nat) ≤ 64 ∧ (64 : Nat) ≤ 64 ∧ (1 : Nat) ≤ 1 ∧ (255 : Nat) ≤ 255 := by decide +kernel

theorem witness_LineConfigAndLineAck_inUse : 0 < (one (recIn .agreed)).liveCount 2 := by
  refine List.countP_pos_iff.2 ⟨0, List.mem_finRange _, ?_⟩
  rfl

theorem witness_LineReadReportsALine :
    (one (recIn .agreed)).ready ∧ (one (recIn .agreed)).lines[(2 : LineId)].Ok ∧
    (one (recIn .agreed)).lines[(0 : LineId)].Ok := by decide +kernel

theorem witness_LineReadReportsALine_count : (filled .free).liveCount 2 ≤ 64 := by
  rw [filled_liveCount _ _ rfl]; decide

theorem witness_LineFramesThatMoveNoRecord :
    (∀ st ∈ ([.absent, .down, .up, .lost] : List LineState), (lineIn st).hears 2 = true ∧
      (lineIn st).lines[(2 : LineId)].state = st) ∧
    (lineIn .up).lines[(2 : LineId)].ceiling ≤ 8 ∧
    ((lineIn .down).modLine 2 fun ln => { ln with badRun := 7 }).lines[(2 : LineId)].badRun = 7 := by decide +kernel

theorem witness_LineLeavesUpByFourEvents :
    (lineIn .up).running = true ∧ (lineIn .up).hears 2 = true ∧ (lineIn .up).lines[(2 : LineId)].state = .up ∧
    (lineIn .up).lines[(2 : LineId)].silence = some { start := 0, duration := 200 } ∧
    (lineIn .down).lines[(2 : LineId)].silence = some { start := 0, duration := 200 } ∧
    ((lineIn .up).modLine 2 fun ln => { ln with badRun := 7 }).lines[(2 : LineId)].badRun = 7 ∧
    (later 198 (lineIn .up)).now < max 0 (0 + 200 - 1) ∧ max 0 (0 + 200 - 1) ≤ (later 199 (lineIn .up)).now ∧
    (lineIn .lost).lines[(2 : LineId)].silence = none ∧ (lineIn .lost).port.go = false := by decide +kernel

theorem witness_TreatmentOfALineLeavingUp : ∀ st ∈ states,
    (one (recIn st)).record? 0 = some (recIn st) ∧ (recIn st).line = 2 ∧ (recIn st).state = st ∧
    (one (recIn st)).record? 255 = none := by
  intro st h
  refine ⟨(one_record? _ 0).trans rfl, rfl, rfl, (one_record? _ 255).trans rfl⟩

theorem witness_LineUpQueuesOrLowers :
    (lineIn .lost).hears 2 = true ∧ (lineIn .lost).lines[(2 : LineId)].state ≠ .up ∧
    ((one (recIn .parked)).modLine 2 fun ln => { ln with state := .down }).record? 0 = some (recIn .parked) ∧
    (lineIn .up).hears 2 = true ∧ (lineIn .up).lines[(2 : LineId)].state = .up ∧
    (7 : Step) < (lineIn .up).lines[(2 : LineId)].ceiling :=
  ⟨rfl, by decide +kernel, (one_record? _ 0).trans rfl, rfl, by decide +kernel, by decide +kernel⟩

theorem witness_LineUpQueuesOrLowers_byState :
    (recIn .agreed).agreed = some 7 ∧ (recIn .holdover).agreed = some 7 ∧ waitingAgreed.agreed = some 7 ∧
    (6 : Step) < 7 ∧ (0 : Handle) ∈ (one waitingAgreed).arbiters[(2 : LineId)].normal ∧
    (one waitingAgreed).record? 0 = some waitingAgreed := by
  refine ⟨rfl, rfl, rfl, by decide, by decide +kernel, (one_record? _ 0).trans rfl⟩

theorem witness_TransmitLaneSendsInOrder :
    (lineIn .up).lines[(2 : LineId)].txQueue.length < 128 ∧
    128 ≤ ((lineIn .up).modLine 2 fun ln => { ln with
      txQueue := List.replicate 128 .reset }).lines[(2 : LineId)].txQueue.length ∧
    ((lineIn .up).modLine 2 fun ln => { ln with
      txQueue := [.reset], sending := some .reset }).lines[(2 : LineId)].sending ≠ none ∧
    (lineIn .up).running = true := by decide +kernel

/-- A frame and an answer at their first and at their last bit time, and lanes that are idle. -/
theorem witness_TransmitLaneSendsInOrder_lanes : ∀ n ∈ ([0, 49] : List Nat),
    let s := busyPort.modLine 2 fun ln => { ln with sending := some .reset, txSent := n }
    s.running = true ∧ s.lines[(2 : LineId)].sending = some .reset ∧ s.lines[(2 : LineId)].txSent < 50 ∧
    s.lines[(3 : LineId)].sending = none ∧ s.lookup.answer.isSome = true ∧ s.lookup.txSent = 0 ∧ s.lookup.txSent < 90 ∧
    (n = 0 → s.lines[(2 : LineId)].txSent = 0) ∧ awake.running = true ∧ awake.lookup.answer = none := by decide +kernel

theorem witness_FramesWithoutTheirRecord :
    let s := filled .free
    s.hears 2 = true ∧ ¬s.keyLive 2 0 ∧ s.lines[(2 : LineId)].mode = .opened ∧
    s.liveCount 2 < s.lines[(2 : LineId)].quota ∧ s.chooses 0 ∧ s.hears 0 = true ∧
    s.lines[(0 : LineId)].mode = .closed ∧ ¬s.keyLive 0 0 :=
  ⟨rfl, filled_noKey _ _ _ rfl, rfl, by rw [filled_liveCount _ _ rfl]; decide +kernel,
    .inl ⟨by rw [filled_slot]; rfl, fun k hk => absurd hk (Fin.not_lt_zero k)⟩, rfl, rfl, filled_noKey _ _ _ rfl⟩

theorem witness_FramesWithoutTheirRecord_quota :
    ((lineIn .up).modLine 2 fun ln => { ln with quota := 0 }).lines[(2 : LineId)].quota ≤
      ((lineIn .up).modLine 2 fun ln => { ln with quota := 0 }).liveCount 2 ∧
    ((lineIn .up).modLine 2 fun ln => { ln with quota := 0 }).lines[(2 : LineId)].mode = .opened :=
  ⟨Nat.zero_le _, by decide +kernel⟩

theorem witness_FramesWithoutTheirRecord_full :
    let s := (filled (.live { recIn .parked with line := 0 }))
    s.hears 2 = true ∧ ¬s.keyLive 2 0 ∧ s.liveCount 2 < s.lines[(2 : LineId)].quota ∧
    ∀ h : Handle, s.slots[h].body.isLive = true :=
  ⟨rfl, filled_noKey _ _ _ (by decide), by rw [filled_liveCount _ _ (by decide)]; decide +kernel,
    fun h => by rw [filled_slot]; rfl⟩

theorem witness_FramesWithoutTheirRecord_stray :
    (one (recIn .agreed)).hears 2 = true ∧ (one (recIn .agreed)).KeysUnique ∧
    (one (recIn .agreed)).hasRecord 0 (recIn .agreed) 2 0x10A ∧ (recIn .agreed).inOffered = false ∧
    (recIn .negotiating).inOrdered = false ∧ ordered.inOffered = false :=
  ⟨rfl, one_keysUnique _, one_hasRecord _, rfl, rfl, rfl⟩

theorem witness_CapabilityByRecord :
    (one (recIn .negotiating)).hears 2 = true ∧ (one (recIn .negotiating)).KeysUnique ∧
    (one (recIn .negotiating)).hasRecord 0 (recIn .negotiating) 2 0x10A ∧
    (recIn .negotiating).attempt = some { phase := .offered, offer := 0x1FF, rerun := false } ∧
    (StepSet.has (0x1FF : StepSet) 8 = true ∧ StepSet.has (0xF00 : StepSet) 8 = true ∧
      ∀ j : Step, StepSet.has (0x1FF : StepSet) j = true ∧ StepSet.has (0xF00 : StepSet) j = true → j ≤ 8) ∧
    (∀ j : Step, ¬(StepSet.has (0x1FF : StepSet) j = true ∧ StepSet.has (0xE00 : StepSet) j = true)) :=
  ⟨rfl, one_keysUnique _, one_hasRecord _, rfl, by decide, by decide⟩

theorem witness_CapabilityByRecord_states :
    (∀ st ∈ states, (one (recIn st)).hears 2 = true ∧ (recIn st).state = st) ∧
    (one ordered).hears 2 = true ∧ (one ordered).KeysUnique ∧ (one ordered).hasRecord 0 ordered 2 0x10A ∧
    ordered.orderedStep = some 7 ∧ StepSet.has (0x080 : StepSet) 7 = true ∧ StepSet.has (0x07F : StepSet) 7 = false :=
  ⟨by decide +kernel, rfl, one_keysUnique _, one_hasRecord _, rfl, by decide, by decide⟩

theorem witness_OutcomeAndConfirmEndAttempts :
    (one (recIn .negotiating)).KeysUnique ∧ (one (recIn .negotiating)).hasRecord 0 (recIn .negotiating) 2 0x10A ∧
    (recIn .negotiating).inOffered = true ∧ (one ordered).hears 2 = true ∧ (one ordered).KeysUnique ∧
    (one ordered).hasRecord 0 ordered 2 0x10A ∧ ordered.state = .negotiating ∧ ordered.orderedStep = some 7 ∧
    (8 : Step) ≠ 7 :=
  ⟨one_keysUnique _, one_hasRecord _, rfl, rfl, one_keysUnique _, one_hasRecord _, rfl, rfl, by decide⟩

/-- Every record state meets the hypotheses of the statements on station frames that name one. -/
theorem witness_CarrierByState (st : RecState) (h : st ∈ states) :
    (one (recIn st)).hears 2 = true ∧ (one (recIn st)).KeysUnique ∧ (one (recIn st)).hasRecord 0 (recIn st) 2 0x10A ∧
    (recIn st).state = st :=
  ⟨(one_ready st h).2.1, one_keysUnique _, one_hasRecord _, rfl⟩

/-- The record with a measured ceiling of S8 and one sample short of a rise or a fall. -/
def measured (st : RecState) : Record := { recIn st with
  quality := some { value := 165, ceiling := some 7 }, riseCount := 3, fallCount := 1, remoteMask := some 0xFFF }

theorem witness_SamplesMoveTheCeiling :
    (∀ k j : Step, k ≤ j → Ladder.factory[k].rise.toNat ≤ Ladder.factory[j].rise.toNat ∧
      Ladder.factory[k].fall.toNat ≤ Ladder.factory[j].fall.toNat) ∧
    (∀ k : Step, Ladder.factory[k].fall.toNat ≤ Ladder.factory[k].rise.toNat) ∧
    (measured .agreed).quality = some { value := 165, ceiling := some 7 } ∧
    (recIn .agreed).quality = none := by decide +kernel

theorem witness_QualityByState :
    (∀ st ∈ states, (one (measured st)).hears 2 = true) ∧
    (one (measured .agreed)).KeysUnique ∧ (one (measured .agreed)).hasRecord 0 (measured .agreed) 2 0x10A ∧
    (Record.sample Profile.factory Ladder.factory 151 (measured .agreed)).quality =
      some { value := 151, ceiling := some 6 } ∧
    (Record.sample Profile.factory Ladder.factory 180 (measured .agreed)).quality =
      some { value := 180, ceiling := some 8 } ∧
    (Record.sample Profile.factory Ladder.factory 160 (measured .agreed)).quality =
      some { value := 160, ceiling := some 7 } ∧
    StepSet.has (computeOffer Profile.factory none 8 (some { value := 180, ceiling := some 8 })) 8 = true :=
  ⟨by decide +kernel, one_keysUnique _, one_hasRecord _, by decide +kernel, by decide +kernel, by decide +kernel,
    by decide +kernel⟩

theorem witness_RequeueAndPostAgreementCheck :
    (one (recIn .agreed)).record? 0 = some (recIn .agreed) ∧ (one (recIn .agreed)).lines[(2 : LineId)].state = .up ∧
    ((one (recIn .agreed)).modLine 2 fun ln => { ln with state := .lost }).lines[(2 : LineId)].state ≠ .up ∧
    (6 : Step) < 7 ∧ ¬((one (recIn .agreed)).lines[(2 : LineId)].ceiling < 7) ∧
    (∃ q ∈ some ({ value := 0, ceiling := none } : Quality), ∀ c ∈ q.ceiling, c < (0 : Step)) ∧
    (∃ o ∈ some (6 : Step), o < 7) ∧ nonCompliant { Profile.factory with floor := 8 } 7 = true ∧
    nonCompliant Profile.factory 7 = false := by
  refine ⟨(one_record? _ 0).trans rfl, rfl, by decide +kernel, by decide, by decide +kernel,
    ⟨_, rfl, fun c h => ?_⟩, ⟨6, rfl, by decide⟩, by decide, by decide⟩
  cases h

/-- The WAITING record alone in its queue, the grant free. -/
theorem witness_GrantStartsAnAttempt :
    (one (recIn .waiting)).arbiters[(2 : LineId)].grant = none ∧ (one (recIn .waiting)).lineIsUp 2 = true ∧
    (one (recIn .waiting)).arbiters[(2 : LineId)].urgent = [] ∧
    (one (recIn .waiting)).arbiters[(2 : LineId)].normal = [0] ∧
    (one (recIn .waiting)).record? 0 = some (recIn .waiting) ∧
    computeOffer Profile.factory none 8 none ≠ 0 ∧
    (one (recIn .negotiating)).arbiters[(2 : LineId)].grant ≠ none ∧ (lineIn .down).lineIsUp 2 = false := by
  refine ⟨rfl, rfl, rfl, rfl, (one_record? _ 0).trans rfl, by decide +kernel, by decide +kernel, rfl⟩

/-- A ceiling of none leaves no step to offer (R53). -/
def unofferable : Record := { recIn .waiting with quality := some { value := 3, ceiling := none } }

theorem witness_GrantStartsAnAttempt_empty :
    (one unofferable).arbiters[(2 : LineId)].grant = none ∧ (one unofferable).lineIsUp 2 = true ∧
    (one unofferable).arbiters[(2 : LineId)].urgent = [] ∧ (one unofferable).arbiters[(2 : LineId)].normal = [0] ∧
    (one unofferable).record? 0 = some unofferable ∧ unofferable.line = 2 ∧
    computeOffer Profile.factory none 8 unofferable.quality = 0 := by
  refine ⟨rfl, rfl, rfl, rfl, (one_record? _ 0).trans rfl, rfl, by decide +kernel⟩

theorem witness_HandOutLeavesNobodyWaiting :
    ((lineIn .up).handOut 2).lineIsUp 2 = true ∧ ((lineIn .up).handOut 2).arbiters[(2 : LineId)].grant = none :=
  ⟨rfl, rfl⟩

/-- A QUALITY_UP attempt whose agreement stands. -/
def movingUp : Record := { recIn .negotiating with cause := some .qualityUp, agreed := some 7 }

theorem witness_FailurePlacesTheRecord :
    (one (recIn .negotiating)).record? 0 = some (recIn .negotiating) ∧
    ¬((recIn .negotiating).cause = some .qualityUp ∧ (recIn .negotiating).agreed.isSome = true) ∧
    (recIn .negotiating).attempts + 1 ≤ Profile.factory.retryLimit ∧
    Profile.factory.retryLimit < { recIn .negotiating with attempts := 3 }.attempts + 1 ∧
    (one movingUp).record? 0 = some movingUp ∧ movingUp.cause = some .qualityUp ∧
    movingUp.agreed.isSome = true ∧ FailReason.refused ≠ .noCarrier :=
  ⟨(one_record? _ 0).trans rfl, by decide, by decide, by decide, (one_record? _ 0).trans rfl, rfl, rfl, by decide⟩

theorem witness_FailurePlacesTheRecord_holdover :
    (one { recIn .agreed with carrier := .down }).record? 0 = some { recIn .agreed with carrier := .down } ∧
    (recIn .agreed).carrier ≠ .down := ⟨(one_record? _ 0).trans rfl, by decide⟩

/-- The first ms at which each timer can expire, and the one before it. -/
theorem witness_RecordTimersExpire_moments :
    ∀ x ∈ ([(500, 1), (100, 1), (2000, 3), (250, 1), (30000, 31), (0, 0)] : List (Nat × Nat)),
      max 0 (0 + x.1 - if x.1 = 0 then 0 else 1 + x.1 / 1000) ≤ (later (x.1 - x.2) awake).now ∧
      (x.1 = 0 ∨ (later (x.1 - x.2 - 1) awake).now < max 0 (0 + x.1 - if x.1 = 0 then 0 else 1 + x.1 / 1000)) := by
  decide

theorem witness_RecordTimersExpire :
    (∀ st ∈ ([.negotiating, .holdover, .backoff, .retiring] : List RecState),
      (one (recIn st)).running = true ∧ (recIn st).timer.isSome = true) ∧
    (one (recIn .backoff)).record? 0 = some (recIn .backoff) ∧ (recIn .negotiating).inOffered = true ∧
    ordered.inOrdered = true ∧ (one ordered).record? 0 = some ordered ∧ (recIn .holdover).agreed = some 7 ∧
    (recIn .backoff).cause = some .initial :=
  ⟨by decide +kernel, (one_record? _ 0).trans rfl, rfl, rfl, (one_record? _ 0).trans rfl, rfl, rfl⟩

theorem witness_QueriesAreAnswered (st : RecState) (h : st ∈ states) :
    (one (recIn st)).running = true ∧ (one (recIn st)).lookup.rxWaitsIdle = false ∧
    (one (recIn st)).lookup.answer = none ∧ (one (recIn st)).KeysUnique ∧
    (one (recIn st)).hasRecord 0 (recIn st) 2 0x10A ∧ ¬(one (recIn st)).keyLive 7 4095 ∧
    (one (recIn st)).names 0 3 (recIn st) :=
  ⟨(one_ready st h).1.1, rfl, rfl, one_keysUnique _, one_hasRecord _, one_noKey _ _ _ (by
      rintro ⟨h, -⟩; exact absurd h (by decide : (2 : LineId) ≠ 7)), one_names _⟩

theorem witness_QueriesAreAnswered_counts (e : Epoch) (he : e = 0 ∨ e = 4095) :
    (∀ r, ¬(one (recIn .agreed)).names 0 e r) ∧
    (one { recIn .agreed with holds := 15 }).names 0 3 { recIn .agreed with holds := 15 } ∧
    (one { recIn .agreed with holds := 14 }).names 0 3 { recIn .agreed with holds := 14 } ∧
    (one (recIn .retiring)).names 0 3 (recIn .retiring) ∧ (recIn .retiring).holds = 1 := by
  refine ⟨?_, one_names _, one_names _, one_names _, rfl⟩
  rintro r ⟨h1, h2, -⟩
  have h2 : (3 : Epoch) = e := h2
  rcases he with rfl | rfl
  · exact h1 rfl
  · exact absurd h2 (by decide)

theorem witness_BusyAndBadQueries :
    (Instr.lookupFind 3 15 0).wellFormed = false ∧ queryTag? (.lookupFind 3 15 0) = some 3 ∧
    (Instr.hold 4 256 1).wellFormed = false ∧ queryTag? (.hold 4 256 1) = some 4 ∧
    busyPort.running = true ∧ busyPort.lookup.answer.isSome = true ∧ busyPort.lookup.rxWaitsIdle = false := by
  decide +kernel

theorem witness_BytesReadBack :
    frameLine? (.capability 7 4095 0xFFF) = some 7 ∧ upwardBytes (.capability 7 4095 0xFFF) = some [0x3F, 0xFF, 0x0F, 0xFF, 0xB3] ∧
    ([0x3F, 0xFF, 0x0F, 0xFF, 0xB3] : List Byte)[4]? ≠ some 0xB4 ∧
    (Instr.release 15 255 4095).wellFormed = true ∧ (lookupBytes (.release 15 255 4095)).isSome = true := by decide

/-- A command waits, so the step of any such state answers next. The invariants do not look at the queue. -/
theorem queued_steps (s : State) : ∃ t, step { s with pending := [.answerSent] } = .next t := ⟨_, rfl⟩

theorem witness_StoresStayInRange : { awake with pending := [.answerSent] }.LaddersOk ∧
    { awake with pending := [.answerSent] }.ProfilesOk := by decide +kernel

theorem witness_StoresStayInRange_bindings : (lineIn .up).BindingsOk := by
  refine ⟨fun h r hr => ?_, by decide +kernel⟩
  have hr : (lineIn .up).record? h = some r := hr
  rw [lineIn_record?] at hr
  cases hr

theorem witness_GoHoldsWhileASweepRuns : (sweeping (recIn .agreed) 256).PortOk ∧ (sweeping (recIn .agreed) 256).SweepOk := by
  decide +kernel

theorem one_slotsOk : (one (recIn .agreed)).SlotsOk := by
  intro h
  have e : (one (recIn .agreed)).slots[h] = _ := slot0_get _ h
  rw [e]
  split <;> exact ⟨by decide +kernel, by decide +kernel, by decide +kernel⟩

theorem witness_SlotsAndLinesStayWellFormed : (one (recIn .agreed)).SlotsOk ∧ (one (recIn .agreed)).LinesOk :=
  ⟨one_slotsOk, by decide +kernel⟩

theorem one_everyRecord {r : Record} {P : Record → Prop} (h : P r) : (one r).EveryRecord P := by
  intro x q hq
  have hq : (one r).record? x = some q := hq
  rw [one_record?] at hq
  split at hq
  · cases hq; exact h
  · cases hq

theorem witness_RecordsStayConsistent (st : RecState) (h : st ∈ states) :
    (one (recIn st)).EveryRecord (fun r => r.AttemptOk ∧ r.AgreedOk ∧ r.TimerOk ∧ r.HoldsOk) ∧
    (one (recIn st)).EveryRecord (fun r => r.AttemptOk ∧ r.StepInMask ∧ r.OrderedOk) ∧
    (one (recIn st)).EveryRecord (fun r => r.CarrierOk ∧ (r.agreed.isSome = true → r.carrier ≠ .unknown)) := by
  have k : ∀ st ∈ states, ((recIn st).AttemptOk ∧ (recIn st).AgreedOk ∧ (recIn st).TimerOk ∧ (recIn st).HoldsOk) ∧
      ((recIn st).AttemptOk ∧ (recIn st).StepInMask ∧ (recIn st).OrderedOk) ∧
      (recIn st).CarrierOk ∧ ((recIn st).agreed.isSome = true → (recIn st).carrier ≠ .unknown) := by decide
  exact ⟨one_everyRecord (k st h).1, one_everyRecord (k st h).2.1, one_everyRecord (k st h).2.2⟩

theorem one_liveCount (r : Record) (l : LineId) : (one r).liveCount l ≤ 1 := by
  unfold State.liveCount
  rw [List.finRange_succ, List.countP_cons, List.countP_eq_zero.2]
  · split <;> decide
  · intro h hh
    obtain ⟨k, -, rfl⟩ := List.mem_map.1 hh
    have e : (one r).slots[k.succ] = _ := slot0_get _ k.succ
    rw [e, if_neg (Fin.succ_ne_zero k)]
    exact Bool.false_ne_true

theorem witness_KeysAndQuotasHold : (one (recIn .agreed)).KeysUnique ∧ (one (recIn .agreed)).QuotasOk := by
  refine ⟨one_keysUnique _, fun l => (one_liveCount _ l).trans ?_⟩
  revert l
  decide +kernel

theorem one_isOn (r : Record) (l : LineId) (st : RecState) (h : Handle) :
    (one r).isOn l st h ↔ h = 0 ∧ r.line = l ∧ r.state = st := by
  constructor
  · rintro ⟨q, hq, hk⟩
    have hq : (one r).record? h = some q := hq
    rw [one_record?] at hq
    split at hq
    · cases hq; exact ⟨‹_›, hk⟩
    · cases hq
  · rintro ⟨rfl, hk⟩
    exact ⟨r, (one_record? r 0).trans rfl, hk⟩

theorem one_arbiters (l : LineId) : (one (recIn .negotiating)).arbiters[l] =
    if l = 2 then { grant := some 0, urgent := [], normal := [] } else Arbiter.reset := by
  revert l
  decide +kernel

theorem witness_ArbitersMatchTheTable :
    (one (recIn .negotiating)).ArbitersOk ∧
    (one (recIn .negotiating)).EveryRecord
      (fun r => (one (recIn .negotiating)).RecordFitsLine r ∧ r.CauseOk) := by
  constructor
  · intro l
    have e1 : (recIn .negotiating).line = 2 := rfl
    have e2 : (recIn .negotiating).state = .negotiating := rfl
    simp only [State.ArbiterOk, one_isOn, one_arbiters, e1, e2]
    by_cases k : l = 2
    · subst k
      refine ⟨fun h => ⟨fun e => ⟨(Option.some.inj e).symm, by simp⟩, fun e => congrArg some e.1.symm⟩, ?_⟩
      simp
    · have k' : ¬(2 = l) := fun e => k e.symm
      simp [k, k', Arbiter.reset]
  · exact one_everyRecord ⟨⟨fun _ => rfl, fun e => absurd e (by decide)⟩, by decide⟩

/-- A FAILED record at the end of its counts, in no queue. -/
def wornOut : Record := { recIn .failed with attempts := 8, fallCount := 15 }

theorem witness_RecordsStayConsistent_counts :
    (one wornOut).LaddersOk ∧ (one wornOut).ProfilesOk ∧ (one wornOut).ArbitersOk ∧
    (one wornOut).EveryRecord (fun r => r.QualityCountsOk ∧ r.AttemptsOk ∧
      (r.state ≠ .failed → r.state ≠ .retiring → r.attempts ≤ 7)) := by
  refine ⟨by decide +kernel, by decide +kernel, fun l => ?_, one_everyRecord (by decide)⟩
  have e : (one wornOut).arbiters[l] = Arbiter.reset := by revert l; decide +kernel
  have e2 : wornOut.state = .failed := rfl
  simp only [State.ArbiterOk, one_isOn, e, e2]
  simp [Arbiter.reset]

/-- The silence timer of the line at its last moment, the negotiation timer under way. -/
theorem witness_SlotsAndLinesStayWellFormed_time :
    (later 201 (one (recIn .negotiating))).HeldOk ∧
    (later 201 (one (recIn .negotiating))).EveryRecord (fun r => r.AttemptOk ∧ r.TimerOk) ∧
    (later 201 (one (recIn .negotiating))).TimersInTime := by
  have o := fun P h => one_everyRecord (r := recIn .negotiating) (P := P) h
  refine ⟨fun e => absurd e (by decide +kernel), o _ (by decide), o _ ?_, ?_⟩
  · rintro t ⟨⟩
    decide
  · have e : ∀ l : LineId, ∀ x ∈ (later 201 (one (recIn .negotiating))).lines[l].silence.toList,
        x.start ≤ 201 ∧ x.deadline + x.tolerance ≥ 201 := by decide +kernel
    intro l x hx
    exact e l x (Option.mem_toList.2 hx)

theorem witness_SlotsAndLinesStayWellFormed_held : (awake.after .resetn).HeldOk ∧
    (awake.after .resetn).running = false := ⟨fun _ => rfl, rfl⟩

/-- A frame, a query and an answer in their last bit times, and the last bit of a word. -/
theorem witness_SlotsAndLinesStayWellFormed_lanes :
    ({ (busyPort.modLine 2 fun ln => { ln with
        sending := some .reset, txSent := 49, rxBits := some (List.replicate 8 true), rxBytes := [1, 2, 3, 4] }) with
      lookup := { busyPort.lookup with txSent := 89, rxBits := some (List.replicate 8 false), rxBytes := [1, 2, 3, 4] }
      spi := .writing 0x1F (List.replicate 15 true) } : State).LanesOk := by
  refine ⟨by decide +kernel, by decide +kernel, ?_, ?_, ?_⟩
  · rintro _ ⟨⟩
  · rintro a _ ⟨⟩
    decide
  · rintro _ _ _ ⟨⟩

theorem witness_FramesOfOneLineStayOnIt :
    (one (recIn .negotiating)).ArbitersOk ∧ frameLine? (.alive 2) = some 2 ∧
    ∃ t, exec (.alive 2) (one (recIn .negotiating)) = .next t :=
  ⟨witness_ArbitersMatchTheTable.1, rfl, _, rfl⟩

/-- CARRIER DOWN leaves the record in its slot; a CAPABILITY that excludes its step takes the step. -/
theorem witness_GenerationMarksTheAgreedStep :
    ((one waitingAgreed).after (.capability 2 0x10A 0x00F)).record? 0 =
      some { waitingAgreed with
        remoteMask := some 0x00F, agreed := none, generation := 2, changes := kindRate } ∧
    (one waitingAgreed).slots[(0 : Handle)].epoch =
      ((one waitingAgreed).after (.capability 2 0x10A 0x00F)).slots[(0 : Handle)].epoch ∧
    exec (.capability 2 0x10A 0x00F) (one waitingAgreed) =
      .next ((one waitingAgreed).after (.capability 2 0x10A 0x00F)) := by
  refine ⟨by decide +kernel, by decide +kernel, rfl⟩

/-! ### One command, one or two fields: the expected values are the spec's own -/

/-- The record in slot 0 after a command. -/
def State.rec0 (s : State) (c : Instr) : Option Record := (s.after c).record? 0

theorem test_powerOn_holds : (awake.after .powerOn).poweringOn = true ∧
    (awake.after .powerOn).enables = 0x801F := by decide +kernel
theorem test_powerOnEnd : ((awake.after .powerOn).after .powerOnEnd).running = true := by decide +kernel
theorem test_resetn_during_power_on : (((awake.after .powerOn).after .resetn).after .powerOnEnd).running = false := by
  decide +kernel
theorem test_resetnRelease : ((awake.after .resetn).after .resetnRelease).running = true := by decide +kernel
theorem test_idle_of_two_byte_times :
    (State.reset.after (.idleOfTwoByteTimes (.report 3))).lines[(3 : LineId)].rxWaitsIdle = false ∧
    (State.reset.after (.idleOfTwoByteTimes .lookup)).lookup.rxWaitsIdle = false := by decide +kernel

/-- The first row of section 2.4.1: the lower vacated slot is reclaimed and its epoch steps (here at the end of the cycle, R2). -/
theorem test_created_reclaims :
    ((vacated 16).created 0 (recIn .waiting)).flags.noticeLost = true ∧
    ((filled (.vacated 2 310 16)).created 0 (recIn .waiting)).slots[(0 : Handle)].epoch = 1 := by decide +kernel
theorem test_admit_grants_at_once : ((lineIn .up).after (.admitRecord 2 266 0)).port.res[(2 : Fin 8)] = 1 := by
  decide +kernel
theorem test_find : ((one (recIn .agreed)).after (.find 2 266)).port.res[(3 : Fin 8)] = 8 := by decide +kernel
theorem test_read_state_word : ((one (recIn .agreed)).after (.read 0)).port.res[(2 : Fin 8)] = 0x0600 := by
  decide +kernel
theorem test_read_timer_word : ((one (recIn .holdover)).after (.read 0)).port.res[(4 : Fin 8)] = 0xC0FF := by
  decide +kernel
theorem test_rebind_rerun : (State.rec0 (one (recIn .negotiating)) (.rebind 0 3 0)).map (fun r => r.rerunYes) = some true := by
  decide +kernel
theorem test_cap_requeues :
    (State.rec0 (one (recIn .agreed)) (.cap 0 3 7)).map (fun r => (r.state, r.cause)) =
      some (.negotiating, some .qualityDown) := by decide +kernel
theorem test_cap_equal_stays :
    (State.rec0 (one (recIn .agreed)) (.cap 0 3 8)).map (fun r => r.state) = some .agreed := by decide +kernel
theorem test_renegotiate_failed_counts_afresh :
    (State.rec0 (one { recIn .failed with attempts := 4 }) (.renegotiate 0 3)).map (fun r => (r.attempts, r.cause)) =
      some (0, some .host) := by decide +kernel
theorem test_renegotiate_waiting_busy : ((one (recIn .waiting)).after (.renegotiate 0 3)).port.status = 8 := by
  decide +kernel
/-- The RETIRE row of section 8.7: generation 4 to 5, and the default grace of 300 units. -/
theorem test_retire_with_holds :
    (State.rec0 (one { recIn .agreed with generation := 4, holds := 3 }) (.retire 0 3 0xFFFE)).map
      (fun r => (r.generation, r.changes, r.timer)) = some (5, 0b00011, some { start := 0, duration := 30000 }) := by
  decide +kernel
theorem test_retire_without_holds :
    ((one (recIn .agreed)).after (.retire 0 3 0)).slots[(0 : Handle)] = { epoch := 3, body := .vacated 2 266 0b10010 } := by
  decide +kernel
/-- The second NEXT_CHANGE row of section 10.6, with its vacated slot at handle 0. -/
theorem test_nextChange_vacated : ((vacated 16).after (.nextChange 0)).port.res[(2 : Fin 8)] = 1 ∧
    ((vacated 16).after (.nextChange 0)).port.res[(5 : Fin 8)] = 266 := by decide +kernel
theorem test_ackChange_frees : ((vacated 16).after (.ackChange 0 3 16)).slots[(0 : Handle)] = { epoch := 3, body := .free } := by
  decide +kernel
/-- The first row of section 11.9: HOLDOVER_TIME 300. -/
theorem test_profileStage : (awake.after (.profileStage 7 300)).staging.holdoverTime = 300 ∧
    (awake.after (.profileStage 7 6001)).port.status = 2 := by decide +kernel
theorem test_profileLoad_invalid : (awake.after (.profileLoad 15)).port.status = 4 := by decide +kernel
theorem test_profileCommit_holds_go : (awake.after (.profileCommit 3)).port.go = true ∧
    (awake.after (.profileCommit 3)).isValid 3 = true := by decide +kernel
theorem test_profileCommit_check : ((staged { Profile.factory with cap := 2, floor := 3 }).after
    (.profileCommit 1)).port.res[(0 : Fin 8)] = 3 := by decide +kernel
theorem test_profileRead_valid_set : (awake.after (.profileRead 16 13)).port.res[(0 : Fin 8)] = 0x13 ∧
    (awake.after (.profileRead 0 0)).port.res[(1 : Fin 8)] = 1 := by decide +kernel
/-- The two first writes of section 4.1.1: bottom-up fails test 3, top-down passes. -/
theorem test_ladderWrite_order : (awake.after (.ladderWrite 1 5 125 115)).port.res[(0 : Fin 8)] = 3 ∧
    ((awake.after (.ladderWrite 1 6 135 125)).after (.ladderWrite 1 5 125 115)).port.status = 0 := by decide +kernel
theorem test_ladderRead : (awake.after (.ladderRead 0 9)).port.res[(0 : Fin 8)] = 180 ∧
    (awake.after (.ladderRead 0 9)).port.res[(1 : Fin 8)] = 172 ∧
    (awake.after (.ladderRead 0 9)).port.res[(2 : Fin 8)] = 1 := by decide +kernel
theorem test_lineConfig_mode : (awake.after (.lineConfig 0 64 1 0 255)).lines[(0 : LineId)].mode = .opened := by
  decide +kernel
theorem test_lineRead : (awake.after (.lineRead 5)).port.res[(1 : Fin 8)] = 0x1420 := by decide +kernel
theorem test_lineReset_absent : (awake.after (.lineReset 0)).lines[(0 : LineId)].txQueue = [.reset] := by
  decide +kernel
theorem test_lineAck : (((awake.after (.malformedFrame 1)).modLine 1 fun ln => { ln with changes := 0b10001 }).after
    (.lineAck 1 0b10010)).port.res[(0 : Fin 8)] = 1 := by decide +kernel
theorem test_ident : (awake.after .ident).port.res[(0 : Fin 8)] = 0x2218 ∧
    (awake.after .ident).flags.commandDone = true := by decide +kernel
theorem test_unknownCommand_zero : (awake.after (.unknownCommand 0)).port.status = 1 := by decide +kernel
theorem test_goWhileBusy : ((sweeping (recIn .agreed) 0).after .goWhileBusy).port.mailboxBusy = true := by decide +kernel
theorem test_mailboxWrite : (awake.after (.mailboxWrite (.arg 5) 0xBEEF)).readWord 0x0D = 0xBEEF := by decide +kernel
theorem test_flagsWrite : ({ awake with flags := { awake.flags with tableFull := true, noticeLost := true } }.after
    (.flagsWrite 0x0002)).flags = { tableFull := false, noticeLost := true, lookupOverrun := false, commandDone := false } := by
  decide +kernel
theorem test_enablesWrite_ignores_other_bits : (awake.after (.enablesWrite 0xFFFF)).enables = 0x803F := by decide +kernel
theorem test_portStatusWrite : ((awake.setMailboxBusy.after (.portStatusWrite 0xFFFE)).port.mailboxBusy = true) ∧
    ((awake.setMailboxBusy.after (.portStatusWrite 1)).port.mailboxBusy = false) := by decide +kernel
theorem test_registerWrite_read_only : (awake.after (.registerWrite 0x0E 0x1234)).readWord 0x0E = 0 := by decide +kernel
theorem test_sweepVisit_requeues :
    ((sweeping { recIn .agreed with profile := 1 } 0).after .sweepVisit).sweep.map (fun w => (w.visited, w.requeued)) =
      some (1, 1) := by decide +kernel
theorem test_commitSweepEnd : ((sweeping (recIn .agreed) 256).after .commitSweepEnd).flags.commandDone = true ∧
    ((sweeping (recIn .agreed) 256).after .commitSweepEnd).port.go = false := by decide +kernel
theorem test_lineUp_from_lost : ((lineIn .lost).after (.lineUp 2 11)).lines[(2 : LineId)].changes = 0b00011 := by
  decide +kernel
theorem test_lineDown_from_absent : (awake.after (.lineDown 4)).lines[(4 : LineId)].state = .down := by decide +kernel
theorem test_alive_starts_silence : (awake.after (.alive 4)).lines[(4 : LineId)].silence =
    some { start := 0, duration := 200 } := by decide +kernel
/-- Table 6-2 has no common step above; section 6.5.1 orders S4 out of S1 to S4. -/
theorem test_capability_orders :
    (State.rec0 (one (recIn .negotiating)) (.capability 2 266 0x00F)).map (fun r => r.orderedStep) = some (some 3) := by
  decide +kernel
theorem test_capability_parked_abandons :
    ((one (recIn .parked)).after (.capability 2 266 0x00F)).lines[(2 : LineId)].txQueue = [.abandon 266] := by decide +kernel
theorem test_outcome_backs_off :
    (State.rec0 (one { recIn .negotiating with attempts := 1 }) (.outcome 2 266 .noResponse)).map
      (fun r => (r.state, r.attempts, r.timer)) = some (.backoff, 2, some { start := 0, duration := 500 }) := by decide +kernel
theorem test_confirm_other_step :
    (State.rec0 (one { ordered with attempts := 2 }) (.confirm 2 266 6)).map (fun r => (r.state, r.timer)) =
      some (.backoff, some { start := 0, duration := 1000 }) := by decide +kernel
theorem test_confirm_agrees :
    (State.rec0 (one ordered) (.confirm 2 266 7)).map (fun r => (r.agreed, r.generation, r.changes)) =
      some (some 7, 2, 0b00011) := by decide +kernel
theorem test_carrier_down_holds_over :
    (State.rec0 (one (recIn .agreed)) (.carrier 2 266 .down)).map (fun r => (r.state, r.generation, r.timer)) =
      some (.holdover, 1, some { start := 0, duration := 2000 }) := by decide +kernel
theorem test_carrier_up_returns :
    (State.rec0 (one (recIn .holdover)) (.carrier 2 266 .up)).map (fun r => (r.state, r.agreed)) =
      some (.agreed, some 7) := by decide +kernel
/-- Quality 185 gives S9 under the default ladder (section 4.1). -/
theorem test_quality_first_sample :
    (State.rec0 (one (recIn .backoff)) (.quality 2 266 185)).map (fun r => r.quality) =
      some (some { value := 185, ceiling := some 8 }) := by decide +kernel
theorem test_quality_falls :
    (State.rec0 (one (measured .holdover)) (.quality 2 266 151)).map (fun r => (r.quality, r.fallCount)) =
      some (some { value := 151, ceiling := some 6 }, 0) := by decide +kernel
theorem test_malformed_eighth : (((lineIn .down).modLine 2 fun ln => { ln with badRun := 7 }).after
    (.malformedFrame 2)).lines[(2 : LineId)].state = .lost := by decide +kernel
theorem test_malformed_absent : ((awake.modLine 2 fun ln => { ln with badRun := 7 }).after
    (.malformedFrame 2)).lines[(2 : LineId)].state = .absent := by decide +kernel
theorem test_frameTransmission : (((lineIn .down).sendDown 2 (.order 266 7)).after
    (.frameTransmission 2)).lines[(2 : LineId)].sending = some (.order 266 7) := by decide +kernel
theorem test_frameTransmissionComplete : ((((lineIn .down).sendDown 2 .reset).after (.frameTransmission 2)).after
    (.frameTransmissionComplete 2)).lines[(2 : LineId)].sending = none := by decide +kernel
/-- 200 ms less 1 ms and 0.1 % (R10): not at 198 ms. -/
theorem test_silenceExpiry_early : ((later 198 (lineIn .down)).after (.silenceExpiry 2)).lines[(2 : LineId)].state = .down := by
  decide +kernel
/-- The frame taken first restarts the timer and the expiry does not occur (R65). -/
theorem test_silenceExpiry_after_alive :
    (((later 199 (lineIn .down)).after (.alive 2)).after (.silenceExpiry 2)).lines[(2 : LineId)].state = .down := by
  decide +kernel
theorem test_silenceExpiry : ((later 199 (lineIn .down)).after (.silenceExpiry 2)).lines[(2 : LineId)].state = .lost := by
  decide +kernel
theorem test_negotiationTimerExpiry :
    (State.rec0 (later 499 (one (recIn .negotiating))) (.negotiationTimerExpiry 0)).map (fun r => (r.state, r.attempts)) =
      some (.backoff, 1) := by decide +kernel
theorem test_confirmTimerExpiry_fails :
    (State.rec0 (later 100 (one { ordered with attempts := 3 })) (.confirmTimerExpiry 0)).map (fun r => (r.state, r.attempts)) =
      some (.failed, 4) := by decide +kernel
theorem test_holdoverExpiry :
    (State.rec0 (later 1997 (one (recIn .holdover))) (.holdoverExpiry 0)).map (fun r => (r.agreed, r.generation, r.cause)) =
      some (none, 2, some .holdoverExpiry) := by decide +kernel
theorem test_backoffExpiry :
    (State.rec0 (later 250 (one (recIn .backoff))) (.backoffExpiry 0)).map (fun r => (r.state, r.offerBits)) =
      some (.negotiating, 0x1FF) := by decide +kernel
theorem test_graceExpiry : ((later 30000 (one (recIn .retiring))).after (.graceExpiry 0)).slots[(0 : Handle)].body =
    .vacated 2 266 0b10000 := by decide +kernel
theorem test_lookupFind : ((one (recIn .agreed)).after (.lookupFind 5 2 266)).lookup.answer.map (fun a => (a.status, a.tag)) =
    some (.ok, 5) := by decide +kernel
theorem test_peek_stale : ((one (recIn .agreed)).after (.peek 9 0 2)).lookup.answer =
    some { status := .stale, tag := 9, overrun := false, content := none } := by decide +kernel
theorem test_hold_full : ((one { recIn .agreed with holds := 15 }).after (.hold 6 0 3)).lookup.answer.map (fun a => a.status) =
    some .holdFull := by decide +kernel
/-- The third RELEASE row of section 8.7. -/
theorem test_release_last : ((one { recIn .retiring with changes := 0b00011 }).after (.release 8 0 3)).slots[(0 : Handle)].body =
    .vacated 2 266 0b10011 := by decide +kernel
theorem test_badQuery : (awake.after (.badQuery 13)).lookup.answer.map (fun a => (a.status, a.tag)) = some (.badQuery, 13) := by
  decide +kernel
theorem test_queryDiscard : (busyPort.after .queryDiscard).flags.lookupOverrun = true ∧
    (busyPort.after .queryDiscard).lookup.pendingOverrun = true := by decide +kernel
theorem test_answerSent : (busyPort.after .answerSent).lookup.answer = none := by decide +kernel

/-! ### Lanes -/

/-- R171: 31h is start, 1 0 0 0 1 1 0 0, stop. -/
theorem test_lane_bits : laneBits 0x31 =
    [false, true, false, false, false, true, true, false, false, true] := by decide

/-- R62's first example bit by bit, then an idle of two byte times: nothing is under way, and the frame was taken. -/
theorem test_reportLevels_example : (match (lineIn .up).reportLevels 2
      (laneLevels [0x31, 0x0A, 0x00, 0x80, 0x44] ++ List.replicate 20 true) with
    | .next t => (t.lines[(2 : LineId)].txQueue ≠ [] ∧ t.lines[(2 : LineId)].badRun = 0 ∧
        t.lines[(2 : LineId)].rxBytes = [] : Bool)
    | _ => false) = true := by decide +kernel

/-- A stop bit found low makes no difference to its byte (R171). -/
theorem test_reportLevel_low_stop : (match (lineIn .up).reportLevels 2 ((laneBits 0xA7).set 9 false) with
    | .next t => t.lines[(2 : LineId)].rxBytes
    | _ => []) = [0xA7] := by decide +kernel

/-- A short query that ends while the port is BUSY is discarded, though the answer ends before its idle has lasted (R136, R138). -/
theorem test_short_query_while_busy : (match andThen
      (andThen (busyPort.lookupLevels (List.replicate 20 true) (laneBits 0x35)) fun s => s.lookupLevel true (List.replicate 19 true))
      (exec .answerSent) with
    | .next t => (t.flags.lookupOverrun && t.lookup.pendingOverrun && t.lookup.answer.isNone)
    | _ => false) = true := by decide +kernel

/-! ### Bytes and words -/

/-- Table 13-5, with the content of the HOLD row of section 9.9 but its own overrun bit: handle 17, epoch 3, AGREED, S8. -/
theorem test_answer_bytes : Answer.bytes { status := .ok, tag := 6, overrun := true, content := some (
    { handle := 17, epoch := 3, state := .agreed, agreed := some 7, generation := 1, holds := 1 } : AnswerContent) } =
      [0x06, 0x81, 0x11, 0x30, 0x03, 0x80, 0x00, 0x01, 0xB3] := by decide +kernel
theorem test_frame_short : classifyFrame 3 [0x20, 0x00, 0x00] = .malformedFrame 3 := by decide
theorem test_frame_step_zero : classifyFrame 3 [0x50, 0x01, 0x00, 0x00, 0xAE] = .malformedFrame 3 := by decide
theorem test_frame_downward_type : classifyFrame 3 [0x80, 0x01, 0x00, 0x01, 0x7D] = .malformedFrame 3 := by decide
theorem test_query_line_eight : classifyQuery [0x13, 0x08, 0x00, 0x00, 0xE4] = .badQuery 3 := by decide
theorem test_negotiate_bytes : DownFrame.bytes (.negotiate 266 0x1FF) = [0x81, 0x0A, 0x01, 0xFF, 0x74] := by decide
theorem test_spi_header : spiHeader 0x8007 = (true, 7) ∧ spiNext 0x1F = 0 := by decide

/-- R62's first example, byte by byte: a CAPABILITY from station 266. -/
theorem test_reportByte_example : (match (lineIn .up).reportBytes 2 [0x31, 0x0A, 0x00, 0x80, 0x44] with
    | .next t => t.lines[(2 : LineId)].txQueue
    | _ => []) ≠ [] ∧ classifyFrame 2 [0x31, 0x0A, 0x00, 0x80, 0x44] = .capability 2 266 0x080 := by decide +kernel

/-- A transaction cut by RESETn writes nothing after the release, and the next one is taken (R157, R169). -/
theorem test_spi_cut_by_reset :
    ((({ awake with spi := .writing 0x05 [true] } : State).after .resetn).after .resetnRelease).spi = .skipped ∧
    ((((({ awake with spi := .writing 0x05 [true] } : State).after .resetn).after .resetnRelease).spiDeselect).spiSelect).spi =
      .header [] := by decide +kernel

/-- A fall that stays above the agreed step leaves an AGREED record AGREED (R55): S9 to S8 over an agreed S7. -/
theorem test_quality_fall_above_stays :
    (State.rec0 (one { measured .agreed with
      agreed := some 6, quality := some { value := 190, ceiling := some 8 } }) (.quality 2 266 165)).map
        (fun r => (r.state, r.quality)) = some (.agreed, some { value := 165, ceiling := some 7 }) := by decide +kernel

end Sys2Proof.Tests
end

section
/-! SUPPORT. The state after reset, read through the definitions. -/
namespace Sys2Proof.Machine

@[simp] theorem State.reset_slot (h : Handle) : State.reset.slots[h] = { epoch := 0, body := .free } := by
  simp [State.reset]

@[simp] theorem State.reset_line (l : LineId) : State.reset.lines[l] = Line.reset := by simp [State.reset]

@[simp] theorem State.reset_arbiter (l : LineId) : State.reset.arbiters[l] = Arbiter.reset := by simp [State.reset]

@[simp] theorem State.reset_record? (h : Handle) : State.reset.record? h = none := by
  simp only [State.record?, State.reset_slot]

theorem State.reset_profile (n : Fin 16) :
    State.reset.profiles[n] = if n = 0 then some Profile.factory else none := by
  revert n; decide

theorem State.reset_ladder (l : Fin 4) : State.reset.ladders[l] = Ladder.factory := by simp [State.reset]

theorem Ladder.factory_rung (k : Step) :
    Ladder.factory[k].rise.toNat = 20 * (k.val + 1) ∧ Ladder.factory[k].fall.toNat = 20 * (k.val + 1) - 8 := by
  revert k; decide

theorem State.reset_changePending : State.reset.changePending = false := by
  simp only [State.changePending, State.reset_slot, SlotBody.changes]; simp

theorem State.reset_lineEvent : State.reset.lineEvent = false := by
  simp only [State.lineEvent, State.reset_line, Line.reset]; simp

theorem State.reset_deviceFlags : State.reset.deviceFlags = 0 := by
  simp only [State.deviceFlags, State.reset_changePending, State.reset_lineEvent]; rfl

theorem State.reset_enabledFlags : State.reset.enabledFlags = 0 := by
  simp [State.enabledFlags, State.reset_deviceFlags]

theorem State.reset_causeWord : State.reset.causeWord = 0 := by
  have code : State.reset.causeCode = 0 := by simp [State.causeCode, State.reset_enabledFlags]
  have mask : State.reset.lineMask = 0 := by
    simp only [State.lineMask, State.reset_line]; decide
  rw [State.causeWord, code, mask]; rfl

/-- Settles O4, block by block. -/
theorem resetValues : Obligations.ResetValues := by
  refine ⟨State.reset_slot, State.reset_line, State.reset_arbiter, ⟨State.reset_profile, rfl, ?_⟩, rfl,
    fun l k => ?_, rfl, fun i => ?_, fun i => ?_, rfl, rfl, rfl, rfl, ?_, rfl, State.reset_causeWord, ?_⟩
  · decide
  · rw [State.reset_ladder]; exact Ladder.factory_rung k
  · simp [State.reset, HostPort.reset]
  · simp [State.reset, HostPort.reset]
  · simp [State.flagsWord, State.reset_deviceFlags]
  · simp [State.intnAsserted, State.reset_enabledFlags]

/-- Settles O1: a step looks at the queue first. -/
theorem stepRunsFrontCommand : Obligations.StepRunsFrontCommand := by
  intro c rest s front
  simp only [step, front]

theorem Ladder.factory_ok : Ladder.factory.Ok := by
  refine ⟨fun k => ?_, fun k j next => ?_, fun k j next => ?_⟩
  · obtain ⟨rise, fall⟩ := Ladder.factory_rung k
    omega
  · have rise := (Ladder.factory_rung k).1
    have above := (Ladder.factory_rung j).1
    omega
  · have fall := (Ladder.factory_rung k).2
    have above := (Ladder.factory_rung j).2
    omega

theorem State.reset_profilesOk : State.reset.ProfilesOk := by
  refine ⟨by decide, by decide, fun n p hp => ?_⟩
  rw [State.reset_profile] at hp
  obtain rfl : p = Profile.factory := by
    by_cases n0 : n = 0
    · simpa [n0, eq_comm] using hp
    · simp [n0] at hp
  decide

theorem State.reset_bindingsOk : State.reset.BindingsOk := by
  refine ⟨fun h r hr => by simp at hr, fun l => ?_⟩
  rw [State.reset_line]
  exact State.reset_profilesOk.2.1

theorem State.reset_arbitersOk : State.reset.ArbitersOk := by
  intro l
  simp [State.ArbiterOk, State.isOn, Arbiter.reset, -Fin.getElem_fin]

theorem State.reset_quotasOk : State.reset.QuotasOk := by
  intro l
  have none : State.reset.liveCount l = 0 := by
    simp only [State.liveCount, State.reset_slot, SlotBody.isLiveOf]; simp
  rw [none]; exact Nat.zero_le _

/-- Settles O58: the reset state holds no record, and every block stands at values that meet its invariant. -/
theorem resetMeetsTheInvariants : Obligations.ResetMeetsTheInvariants := by
  refine ⟨fun l => ?_, State.reset_profilesOk, by decide, ?_, fun h => ?_, fun l => ?_, State.reset_arbitersOk, ?_,
    State.reset_quotasOk, ?_, State.reset_bindingsOk, ⟨?_, fun l => ?_⟩, ⟨fun l => ?_, by decide, ?_⟩, ?_⟩
  · rw [State.reset_ladder]; exact Ladder.factory_ok
  · simp [State.SweepOk, State.reset]
  · simp [Slot.Ok, SlotBody.isFree, SlotBody.isVacated, SlotBody.isLive, -Fin.getElem_fin]
  · rw [State.reset_line]; decide
  · simp [State.KeysUnique]
  · simp [State.HeldOk, State.running, State.reset]
  · simp [State.EveryRecord]
  · rw [State.reset_line]; simp [Line.reset]
  · rw [State.reset_line]; simp [Line.LanesOk, Line.reset]
  · simp [Spi.WordOk, State.reset]
  · simp [State.EveryRecord]

end Sys2Proof.Machine
end

section
/-! SUPPORT. What no event of the table reaches: the pins, the time base, the queue of commands and the SPI port stay, and the
stores and the lookup port keep their invariants. -/
namespace Sys2Proof.Machine

/-- What every event but a reset leaves of the fields around the table. -/
structure State.Steady (s t : State) : Prop where
  poweringOn : t.poweringOn = s.poweringOn
  resetLow : t.resetLow = s.resetLow
  now : t.now = s.now
  pending : t.pending = s.pending
  spi : t.spi = s.spi
  lookup : s.lookup.LanesOk → t.lookup.LanesOk
  ladders : s.LaddersOk → t.LaddersOk
  profiles : s.ProfilesOk → t.ProfilesOk
  valid : ∀ p, s.isValid p = true → t.isValid p = true

namespace State.Steady

theorem refl (s : State) : s.Steady s := ⟨rfl, rfl, rfl, rfl, rfl, id, id, id, fun _ => id⟩

theorem trans {s t u : State} (a : s.Steady t) (b : t.Steady u) : s.Steady u where
  poweringOn := b.poweringOn.trans a.poweringOn
  resetLow := b.resetLow.trans a.resetLow
  now := b.now.trans a.now
  pending := b.pending.trans a.pending
  spi := b.spi.trans a.spi
  lookup := b.lookup ∘ a.lookup
  ladders := b.ladders ∘ a.ladders
  profiles := b.profiles ∘ a.profiles
  valid p := b.valid p ∘ a.valid p

/-- A change of the table, the lines, the arbiters, the host port, the flags, ENABLES or the sweep alone. -/
theorem of_eq {s t : State}
    (e : t = { s with slots := t.slots, lines := t.lines, arbiters := t.arbiters, sweep := t.sweep, port := t.port
                      flags := t.flags, enables := t.enables }) : s.Steady t := by
  rw [e]; exact ⟨rfl, rfl, rfl, rfl, rfl, id, id, id, fun _ => id⟩

theorem of_outer {s t : State} (o : s.Outer t) : s.Steady t := of_eq (by rw [o])

end State.Steady

/-- The state a command's owner hands on. -/
def CmdResult.state : CmdResult → State
  | .done s _ _ => s
  | .running s => s

/-- Two states that differ in the host port and the sticky flags at most. -/
def State.SamePart (s t : State) : Prop := t = { s with port := t.port, flags := t.flags }

theorem State.SamePart.refl (s : State) : s.SamePart s := rfl

theorem State.samePart_setMailboxBusy (s : State) : s.SamePart s.setMailboxBusy := rfl

theorem State.samePart_began (s : State) (port : HostPort) : s.SamePart ({ s with port := port } : State).began := rfl

/-- A started command ends in the state its owner hands on, but for the port and the flags. -/
theorem State.startCommand_samePart (s : State) (body : State → CmdResult) :
    (body s.began).state.SamePart (s.startCommand body) := by
  cases e : body s.began <;> simp only [State.startCommand, e] <;> rfl

section
variable {R : State → State → Prop} (refl : ∀ s, R s s)
  (samePart : ∀ {s s' t t' : State}, s.SamePart s' → t.SamePart t' → R s' t → R s t')

include samePart in
theorem State.startCommand_lift {body : State → CmdResult} (hb : ∀ u, R u (body u).state) (s : State)
    (port : HostPort) : R s (({ s with port := port } : State).startCommand body) :=
  samePart (s.samePart_began port) (State.startCommand_samePart _ body) (hb _)

include refl samePart in
/-- What every command's owner does and no port word matters to, the host command does. -/
theorem State.issue_lift {body : State → CmdResult} (hb : ∀ u, R u (body u).state) (s : State) (code : Word)
    (args : List Word) : R s (s.issue code args body) := by
  rw [State.issue]
  split
  · exact refl s
  · split
    · exact samePart (.refl s) s.samePart_setMailboxBusy (refl s)
    · exact State.startCommand_lift samePart hb s _

include refl samePart in
theorem State.writeGo_lift (hb : ∀ code u, R u (commandOf code u).state) (s : State) : R s s.writeGo := by
  rw [State.writeGo]
  split
  · exact samePart (.refl s) s.samePart_setMailboxBusy (refl s)
  · exact State.startCommand_lift samePart (hb _) s s.port

end

/-- The row of a host command issues its code, its arguments and the command the code names. -/
theorem exec_hostCommand {c : Instr} {code : Word} {args : List Word} (e : hostCommand? c = some (code, args))
    (s : State) : exec c s = .next (s.issue code args (commandOf code)) := by
  cases c
  all_goals cases e
  all_goals rfl

set_option maxRecDepth 2000 in
/-- Every code runs the owner of its command, or of UNKNOWN_COMMAND. -/
theorem commandOf_cases {P : (State → CmdResult) → Prop} (admission : P cmdAdmit) (find : P cmdFind) (read : P cmdRead)
    (rebind : P cmdRebind) (cap : P cmdCap) (renegotiate : P cmdRenegotiate) (retire : P cmdRetire)
    (nextChange : P cmdNextChange) (ackChange : P cmdAckChange) (stage : P cmdProfileStage) (load : P cmdProfileLoad)
    (commit : P cmdProfileCommit) (readProfile : P cmdProfileRead) (ladderWrite : P cmdLadderWrite)
    (ladderRead : P cmdLadderRead) (lineConfig : P cmdLineConfig) (lineRead : P cmdLineRead)
    (lineReset : P cmdLineReset) (lineAck : P cmdLineAck) (clearTable : P cmdClearTable) (ident : P cmdIdent)
    (unknown : P cmdUnknown) (code : Word) : P (commandOf code) := by
  unfold commandOf
  split
  exacts [admission, find, read, rebind, cap, renegotiate, retire, nextChange, ackChange, stage, load, commit, readProfile,
    ladderWrite, ladderRead, lineConfig, lineRead, lineReset, lineAck, clearTable, ident, unknown]

end Sys2Proof.Machine
end

section
/-! SUPPORT. What each host command can do to the part: one lemma per command, over every state. -/
namespace Sys2Proof.Machine

variable (s : State)

theorem State.named?_record {s : State} {h : Handle} {e : Epoch} {r : Record} (n : s.named? h e = some r) :
    s.record? h = some r := by
  obtain ⟨-, -, found⟩ := s.named?_iff.mp n
  exact found

theorem cmdFind_state : (cmdFind s).state = s := by
  unfold cmdFind; repeat' split
  all_goals rfl

theorem cmdRead_state : (cmdRead s).state = s := by
  unfold cmdRead; split <;> rfl

theorem cmdNextChange_state : (cmdNextChange s).state = s := by
  unfold cmdNextChange; repeat' split
  all_goals rfl

theorem cmdProfileRead_state : (cmdProfileRead s).state = s := by
  unfold cmdProfileRead; repeat' split
  all_goals rfl

theorem cmdLadderRead_state : (cmdLadderRead s).state = s := by
  unfold cmdLadderRead; split <;> rfl

theorem cmdLineRead_state : (cmdLineRead s).state = s := by
  unfold cmdLineRead; split <;> rfl

theorem cmdIdent_state : (cmdIdent s).state = s := rfl

theorem cmdUnknown_state : (cmdUnknown s).state = s := rfl

theorem cmdAdmit_cases : (cmdAdmit s).state = s ∨ (cmdAdmit s).state = s.setTableFull ∨
    ∃ l st p h t, s.isValid p = true ∧ s.findKey l st = none ∧ s.place l st p none .initial = .placed h t ∧
      (cmdAdmit s).state = t.handOut l := by
  unfold cmdAdmit
  split
  next l st p _ _ _ =>
    split
    · exact .inl rfl
    next valid =>
      split
      · exact .inl rfl
      next fresh =>
        split
        · exact .inl rfl
        · exact .inr (.inl rfl)
        next h t placed =>
          exact .inr (.inr ⟨l, st, p, h, t, by simpa using valid, by simpa using fresh, placed, rfl⟩)
  · exact .inl rfl

theorem cmdRebind_cases : (cmdRebind s).state = s ∨
    ∃ h r p, s.record? h = some r ∧ s.isValid p = true ∧ r.state ≠ .retiring ∧
      (cmdRebind s).state =
        ((s.putRecord h { r with profile := p }).rebindReact h { r with profile := p }).handOut r.line := by
  unfold cmdRebind
  split
  next h e p _ _ _ =>
    split
    · exact .inl rfl
    next valid =>
      split
      · exact .inl rfl
      next r named =>
        split
        · exact .inl rfl
        next live => exact .inr ⟨h, r, p, State.named?_record named, by simpa using valid, live, rfl⟩
  · exact .inl rfl

theorem cmdCap_cases : (cmdCap s).state = s ∨
    ∃ h r o, s.record? h = some r ∧ r.state ≠ .retiring ∧
      (cmdCap s).state =
        ((s.putRecord h { r with capOverride := o }).capReact h { r with capOverride := o }).handOut r.line := by
  unfold cmdCap
  split
  next h e _ _ _ _ =>
    split
    · exact .inl rfl
    next r named =>
      split
      · exact .inl rfl
      next live => exact .inr ⟨h, r, _, State.named?_record named, live, rfl⟩
  · exact .inl rfl

theorem cmdRenegotiate_cases : (cmdRenegotiate s).state = s ∨
    ∃ h r, s.record? h = some r ∧
      ((r.state = .agreed ∧ s.lineIsUp r.line = true ∧ (cmdRenegotiate s).state = (s.requeue h .host).handOut r.line) ∨
        (r.state = .failed ∧ (cmdRenegotiate s).state =
          ((s.putRecord h { r with attempts := 0 }).requeue h .host).handOut r.line) ∨
        (r.state = .backoff ∧ (cmdRenegotiate s).state = (s.requeue h (r.cause.getD .initial)).handOut r.line)) := by
  unfold cmdRenegotiate
  split
  next h e _ _ =>
    split
    · exact .inl rfl
    next r named =>
      have found := State.named?_record named
      split
      next st =>
        split
        next up => exact .inr ⟨h, r, found, .inl ⟨st, up, rfl⟩⟩
        · exact .inl rfl
      next st => exact .inr ⟨h, r, found, .inr (.inl ⟨st, rfl⟩)⟩
      next st => exact .inr ⟨h, r, found, .inr (.inr ⟨st, rfl⟩)⟩
      all_goals exact .inl rfl
  · exact .inl rfl

/-- The record RETIRE detaches, before it leaves the table or enters RETIRING (R126). -/
def Record.detached (p : Profile) (r : Record) : Record :=
  Record.dropAgreed p { r with attempt := none, timer := none, cause := none }

theorem cmdRetire_cases : (cmdRetire s).state = s ∨
    ∃ h r, s.record? h = some r ∧ r.state ≠ .retiring ∧
      ((r.holds = 0 ∧ (cmdRetire s).state =
          (((s.detach h r).putRecord h (Record.detached (s.profileOf r.profile) r)).leaveTable h).handOut r.line) ∨
        (r.holds ≠ 0 ∧ ∃ g : Grace, (cmdRetire s).state =
          ((s.detach h r).putRecord h (Record.enter (s.profileOf r.profile) .retiring
            { Record.detached (s.profileOf r.profile) r with timer := s.graceTimer g })).handOut r.line)) := by
  unfold cmdRetire
  split
  next h e g _ _ _ =>
    split
    · exact .inl rfl
    next r named =>
      split
      · exact .inl rfl
      next live =>
        refine .inr ⟨h, r, State.named?_record named, live, ?_⟩
        simp only
        split
        next none => exact .inl ⟨none, rfl⟩
        next held => exact .inr ⟨held, _, rfl⟩
  · exact .inl rfl

theorem cmdAckChange_cases : (cmdAckChange s).state = s ∨
    ∃ h kinds, s.slots[h].body.isFree = false ∧
      (cmdAckChange s).state = s.setBody h (s.slots[h].body.acknowledge kinds) := by
  unfold cmdAckChange
  split
  next h e kinds _ _ _ =>
    split
    · exact .inl rfl
    next ok => exact .inr ⟨h, kinds, by simpa using fun free => ok (.inr (.inr free)), rfl⟩
  · exact .inl rfl

theorem cmdProfileStage_cases : (cmdProfileStage s).state = s ∨
    ∃ n w p, s.staging.withField? n w = some p ∧ (cmdProfileStage s).state = { s with staging := p } := by
  unfold cmdProfileStage
  split
  · exact .inl rfl
  next n _ =>
    split
    · exact .inl rfl
    next p field => exact .inr ⟨n, _, p, field, rfl⟩

theorem cmdProfileLoad_cases : (cmdProfileLoad s).state = s ∨
    ∃ n : Fin 16, ∃ p, s.profiles[n] = some p ∧ (cmdProfileLoad s).state = { s with staging := p } := by
  unfold cmdProfileLoad
  split
  · exact .inl rfl
  next n _ =>
    split
    · exact .inl rfl
    next p found => exact .inr ⟨n, p, found, rfl⟩

theorem cmdProfileCommit_cases : (cmdProfileCommit s).state = s ∨
    ∃ n : Fin 16, ∃ w, s.staging.failedCheck = none ∧ (cmdProfileCommit s).state =
      { s with profiles := s.profiles.set n (some s.staging), sweep := some w } := by
  unfold cmdProfileCommit
  split
  · exact .inl rfl
  next n _ =>
    split
    · exact .inl rfl
    next ok => exact .inr ⟨n, _, ok, rfl⟩

theorem cmdLadderWrite_cases : (cmdLadderWrite s).state = s ∨
    ∃ (l : Fin 4) (k : Step) (g : Rung), Ladder.failedTest s.ladders[l] k g = none ∧
      (cmdLadderWrite s).state = { s with ladders := s.ladders.set l (s.ladders[l].set k g) } := by
  unfold cmdLadderWrite
  split
  next l k rise fall _ _ _ _ =>
    simp only
    split
    · exact .inl rfl
    next ok => exact .inr ⟨l, k, _, ok, rfl⟩
  · exact .inl rfl

theorem cmdLineConfig_cases : (cmdLineConfig s).state = s ∨
    ∃ l p quota mode keepalive, s.isValid p = true ∧ s.liveCount l ≤ quota ∧ quota ≤ 64 ∧ 1 ≤ keepalive ∧
      keepalive ≤ 255 ∧ (cmdLineConfig s).state = s.modLine l fun ln =>
        { ln with quota := quota, mode := mode, defaultProfile := p, keepalive := keepalive } := by
  unfold cmdLineConfig
  split
  next l quota mode p keepalive _ hq _ _ hk =>
    simp only
    split
    · exact .inl rfl
    next valid =>
      split
      · exact .inl rfl
      next room =>
        simp only [Word.inRange?, Option.ite_none_right_eq_some, Option.some.injEq] at hq hk
        exact .inr ⟨l, p, quota, modeOf mode, keepalive, by simpa using valid, by omega, by omega, by omega, by omega, rfl⟩
  · exact .inl rfl

theorem cmdLineReset_cases : (cmdLineReset s).state = s ∨
    ∃ l, (cmdLineReset s).state = (s.modLine l (Line.resetEngine s.now)).lineLeavesUp l := by
  unfold cmdLineReset
  split
  next l _ => exact .inr ⟨l, rfl⟩
  · exact .inl rfl

theorem cmdLineAck_cases : (cmdLineAck s).state = s ∨
    ∃ l c, (cmdLineAck s).state = s.modLine l fun ln => { ln with changes := c } := by
  unfold cmdLineAck
  split
  next l kinds _ _ => exact .inr ⟨l, _, rfl⟩
  · exact .inl rfl

theorem cmdClearTable_state : (cmdClearTable s).state =
    { s.forHandles fun h s => s.clearVisit h with
      slots := (s.forHandles fun h s => s.clearVisit h).slots.map fun x => { x with body := .free }
      arbiters := Vector.replicate 8 Arbiter.reset } := rfl

end Sys2Proof.Machine
end

section
/-! SUPPORT. Every command but a reset is steady (Steady), so every command answers next with queue and time base kept. -/
namespace Sys2Proof.Machine

/-! ### The stores -/

theorem Word.inRange?_some {lo hi n : Nat} {w : Word} (e : Word.inRange? lo hi w = some n) : lo ≤ n ∧ n ≤ hi := by
  simp only [Word.inRange?, Option.ite_none_right_eq_some, Option.some.injEq] at e
  omega

theorem Grace.ofWord?_inRange {w : Word} {g : Grace} (e : Grace.ofWord? w = some g) : g.inRange = true := by
  unfold Grace.ofWord? at e
  split at e
  next small => cases e; simpa [Grace.inRange] using small
  · split at e
    · cases e; rfl
    · cases e

/-- A staged field lies in its range (R32), so staging stays in its ranges (R31). -/
theorem Profile.inRange_withField? {p q : Profile} {n : Fin 14} {w : Word} (ok : p.InRange)
    (e : p.withField? n w = some q) : q.InRange := by
  obtain ⟨rise, fall, hold, neg, conf, retry, base, grace⟩ := ok
  unfold Profile.withField? at e
  split at e
  case h_1 =>
    simp only [Option.ite_none_right_eq_some, Option.some.injEq] at e
    obtain ⟨-, rfl⟩ := e
    exact ⟨rise, fall, hold, neg, conf, retry, base, grace⟩
  all_goals obtain ⟨x, hx, rfl⟩ := Option.map_eq_some_iff.mp e
  case h_6 => exact ⟨Word.inRange?_some hx, fall, hold, neg, conf, retry, base, grace⟩
  case h_7 => exact ⟨rise, Word.inRange?_some hx, hold, neg, conf, retry, base, grace⟩
  case h_8 => exact ⟨rise, fall, (Word.inRange?_some hx).2, neg, conf, retry, base, grace⟩
  case h_9 => exact ⟨rise, fall, hold, Word.inRange?_some hx, conf, retry, base, grace⟩
  case h_10 => exact ⟨rise, fall, hold, neg, Word.inRange?_some hx, retry, base, grace⟩
  case h_11 => exact ⟨rise, fall, hold, neg, conf, (Word.inRange?_some hx).2, base, grace⟩
  case h_12 => exact ⟨rise, fall, hold, neg, conf, retry, Word.inRange?_some hx, grace⟩
  case h_13 => exact ⟨rise, fall, hold, neg, conf, retry, base, Grace.ofWord?_inRange hx⟩
  all_goals exact ⟨rise, fall, hold, neg, conf, retry, base, grace⟩

/-- Content that passes validation meets the cross-field conditions (R29, R35). -/
theorem Profile.crossOk_of_failedCheck {p : Profile} (e : p.failedCheck = none) : p.CrossOk := by
  unfold Profile.failedCheck at e
  split at e
  · cases e
  next top found =>
    simp only [StepSet.highest, highestStep_some] at found
    obtain ⟨member, -⟩ := found
    split at e
    · cases e
    next above =>
      split at e
      · cases e
      next ordered => exact ⟨⟨top, member, not_lt.mp above⟩, not_lt.mp ordered⟩

theorem Ladder.rung_set (l : Ladder) (k : Step) (g : Rung) (j : Step) :
    (l.set k g)[j] = if k = j then g else l[j] := by
  simp [Vector.getElem_set, Fin.ext_iff]

theorem test_passed {α : Type} {c : Prop} [Decidable c] {x : α} {rest : Option α} :
    (if c then some x else rest) = none ↔ ¬c ∧ rest = none := by
  split <;> simp [*]

/-- What the tests of Table 4-2 ask of a rung that passes them (R45). -/
theorem Ladder.failedTest_none {l : Ladder} {k : Step} {g : Rung} (e : l.failedTest k g = none) :
    g.fall.toNat ≤ g.rise.toNat ∧
    (∀ j : Step, j.val + 1 = k.val → l[j].rise.toNat ≤ g.rise.toNat ∧ l[j].fall.toNat ≤ g.fall.toNat) ∧
    ∀ j : Step, k.val + 1 = j.val → g.rise.toNat ≤ l[j].rise.toNat ∧ g.fall.toNat ≤ l[j].fall.toNat := by
  unfold Ladder.failedTest at e
  simp only [test_passed, and_true, not_lt] at e
  obtain ⟨own, riseBelow, riseAbove, fallBelow, fallAbove⟩ := e
  refine ⟨own, fun j next => ?_, fun j next => ?_⟩
  · have at_j : k.val - 1 = j.val := by omega
    have positive : 0 < k.val := by omega
    simp only [positive, dite_true, at_j, Bool.not_eq_true', decide_eq_false_iff_not, not_not] at riseBelow fallBelow
    exact ⟨riseBelow, fallBelow⟩
  · simp only [next, j.isLt, dite_true, Bool.not_eq_true', decide_eq_false_iff_not, not_not] at riseAbove fallAbove
    exact ⟨riseAbove, fallAbove⟩

/-- A rung that passes the tests of Table 4-2 keeps the three constraints (R44, R45). -/
theorem Ladder.ok_set {l : Ladder} {k : Step} {g : Rung} (ok : l.Ok) (e : l.failedTest k g = none) :
    Ladder.Ok (l.set k g) := by
  obtain ⟨order, rises, falls⟩ := ok
  obtain ⟨own, below, above⟩ := Ladder.failedTest_none e
  refine ⟨fun i => ?_, fun i j next => ?_, fun i j next => ?_⟩
  · rw [Ladder.rung_set]
    split
    · exact own
    · exact order i
  · rw [Ladder.rung_set, Ladder.rung_set]
    split <;> split
    next ki kj => subst ki kj; omega
    next ki kj => subst ki; exact (above j next).1
    next ki kj => subst kj; exact (below i next).1
    · exact rises i j next
  · rw [Ladder.rung_set, Ladder.rung_set]
    split <;> split
    next ki kj => subst ki kj; omega
    next ki kj => subst ki; exact (above j next).2
    next ki kj => subst kj; exact (below i next).2
    · exact falls i j next

/-! ### Steps that are steady -/

theorem State.Steady.samePart {s s' t t' : State} (a : s.SamePart s') (b : t.SamePart t') (k : s'.Steady t) :
    s.Steady t' :=
  ((State.Steady.of_eq (by rw [a])).trans k).trans (.of_eq (by rw [b]))

theorem State.steady_stage {s : State} {p : Profile} (ok : s.ProfilesOk → p.InRange) :
    s.Steady { s with staging := p } :=
  ⟨rfl, rfl, rfl, rfl, rfl, id, id, fun k => ⟨ok k, k.2⟩, fun _ => id⟩

theorem State.profile_set (s : State) (n k : Fin 16) (p : Option Profile) :
    (s.profiles.set n p)[k] = if n = k then p else s.profiles[k] := by
  simp [Vector.getElem_set, Fin.ext_iff]

theorem State.ladder_set (s : State) (l k : Fin 4) (x : Ladder) :
    (s.ladders.set l x)[k] = if l = k then x else s.ladders[k] := by
  simp [Vector.getElem_set, Fin.ext_iff]

/-- The copy of PROFILE_COMMIT makes a profile VALID, with content that meets the cross-field conditions (R36). -/
theorem State.steady_commit {s : State} {n : Fin 16} {w : Sweep} (ok : s.staging.failedCheck = none) :
    s.Steady { s with profiles := s.profiles.set n (some s.staging), sweep := some w } := by
  have valid : ∀ p, s.isValid p = true →
      State.isValid { s with profiles := s.profiles.set n (some s.staging), sweep := some w } p = true := by
    intro p before
    simp only [State.isValid, State.profile_set] at before ⊢
    split
    · rfl
    · exact before
  refine ⟨rfl, rfl, rfl, rfl, rfl, id, id, fun ⟨staging, zero, content⟩ => ⟨staging, valid 0 zero, fun k p hp => ?_⟩, valid⟩
  simp only [State.profile_set] at hp
  split at hp
  · cases hp; exact ⟨staging, Profile.crossOk_of_failedCheck ok⟩
  · exact content k p hp

theorem State.steady_rung {s : State} {l : Fin 4} {k : Step} {g : Rung} (ok : Ladder.failedTest s.ladders[l] k g = none) :
    s.Steady { s with ladders := s.ladders.set l (s.ladders[l].set k g) } := by
  refine ⟨rfl, rfl, rfl, rfl, rfl, id, fun before j => ?_, id, fun _ => id⟩
  simp only [State.ladder_set]
  split
  · exact Ladder.ok_set (before l) ok
  · exact before j

theorem State.outer_detach (s : State) (h : Handle) (r : Record) : s.Outer (s.detach h r) := by
  unfold State.detach
  split
  case h_1 => exact (s.outer_releaseGrant _).trans (State.outer_sendDown _ _ _)
  case h_2 => exact s.outer_modArbiter _ _
  case h_3 => exact s.outer_sendDown _ _
  case h_4 => exact s.outer_sendDown _ _
  all_goals exact .refl s

theorem State.outer_rebindReact (s : State) (h : Handle) (r : Record) : s.Outer (s.rebindReact h r) := by
  unfold State.rebindReact
  split
  case h_3 => exact s.outer_putRecord _ _
  case h_1 | h_2 =>
    split
    · exact s.outer_requeue _ _
    · exact .refl s
  all_goals exact .refl s

theorem State.outer_capReact (s : State) (h : Handle) (r : Record) : s.Outer (s.capReact h r) := by
  unfold State.capReact
  simp only
  split
  case h_4 => exact s.outer_putRecord _ _
  case h_1 | h_2 =>
    split
    · exact s.outer_requeue _ _
    · exact .refl s
  case h_3 =>
    split
    · exact s.outer_classMove _ _
    · exact .refl s
  all_goals exact .refl s

theorem State.outer_clearVisit (s : State) (h : Handle) : s.Outer (s.clearVisit h) := by
  unfold State.clearVisit
  split
  · exact .refl s
  · split
    case h_1 | h_2 | h_3 => exact s.outer_sendDown _ _
    all_goals exact .refl s

/-- An admission that finds a slot changes table, queue and NOTICE_LOST alone. -/
theorem State.steady_place {s t : State} {l : LineId} {st : Station} {p : Fin 16} {mask : Option StepSet} {c : Cause}
    {h : Handle} (e : s.place l st p mask c = .placed h t) : s.Steady t := by
  unfold State.place at e
  split at e
  · cases e
  · split at e
    · cases e
    next k _ =>
      injection e with _ ht
      subst ht
      refine .of_eq ?_
      unfold State.allocate
      cases s.lineIsUp l <;> cases s.slots[k].body.isVacated <;> rfl

/-! ### The host commands -/

theorem steady_cmdAdmit (s : State) : s.Steady (cmdAdmit s).state := by
  obtain e | e | ⟨l, st, p, h, t, -, -, placed, e⟩ := cmdAdmit_cases s <;> rw [e]
  · exact .refl s
  · exact .of_eq rfl
  · exact (State.steady_place placed).trans (.of_outer (t.outer_handOut l))

theorem steady_cmdRebind (s : State) : s.Steady (cmdRebind s).state := by
  obtain e | ⟨h, r, p, -, -, -, e⟩ := cmdRebind_cases s <;> rw [e]
  · exact .refl s
  · exact .of_outer (((s.outer_putRecord _ _).trans (State.outer_rebindReact _ _ _)).trans (State.outer_handOut _ _))

theorem steady_cmdCap (s : State) : s.Steady (cmdCap s).state := by
  obtain e | ⟨h, r, p, -, -, e⟩ := cmdCap_cases s <;> rw [e]
  · exact .refl s
  · exact .of_outer (((s.outer_putRecord _ _).trans (State.outer_capReact _ _ _)).trans (State.outer_handOut _ _))

theorem steady_cmdRenegotiate (s : State) : s.Steady (cmdRenegotiate s).state := by
  obtain e | ⟨h, r, -, ⟨-, -, e⟩ | ⟨-, e⟩ | ⟨-, e⟩⟩ := cmdRenegotiate_cases s <;> rw [e]
  · exact .refl s
  · exact .of_outer ((s.outer_requeue _ _).trans (State.outer_handOut _ _))
  · exact .of_outer (((s.outer_putRecord _ _).trans (State.outer_requeue _ _ _)).trans (State.outer_handOut _ _))
  · exact .of_outer ((s.outer_requeue _ _).trans (State.outer_handOut _ _))

theorem steady_cmdRetire (s : State) : s.Steady (cmdRetire s).state := by
  obtain e | ⟨h, r, -, -, ⟨-, e⟩ | ⟨-, g, e⟩⟩ := cmdRetire_cases s <;> rw [e]
  · exact .refl s
  · exact .of_outer ((((s.outer_detach h r).trans (State.outer_putRecord _ _ _)).trans (State.outer_leaveTable _ _)).trans
      (State.outer_handOut _ _))
  · exact .of_outer (((s.outer_detach h r).trans (State.outer_putRecord _ _ _)).trans (State.outer_handOut _ _))

theorem steady_cmdAckChange (s : State) : s.Steady (cmdAckChange s).state := by
  obtain e | ⟨h, kinds, -, e⟩ := cmdAckChange_cases s <;> rw [e]
  · exact .refl s
  · exact .of_outer (s.outer_setBody _ _)

theorem steady_cmdProfileStage (s : State) : s.Steady (cmdProfileStage s).state := by
  obtain e | ⟨n, w, p, field, e⟩ := cmdProfileStage_cases s <;> rw [e]
  · exact .refl s
  · exact State.steady_stage fun ok => Profile.inRange_withField? ok.1 field

theorem steady_cmdProfileLoad (s : State) : s.Steady (cmdProfileLoad s).state := by
  obtain e | ⟨n, p, found, e⟩ := cmdProfileLoad_cases s <;> rw [e]
  · exact .refl s
  · exact State.steady_stage fun ok => (ok.2.2 n p found).1

theorem steady_cmdProfileCommit (s : State) : s.Steady (cmdProfileCommit s).state := by
  obtain e | ⟨n, w, ok, e⟩ := cmdProfileCommit_cases s <;> rw [e]
  · exact .refl s
  · exact State.steady_commit ok

theorem steady_cmdLadderWrite (s : State) : s.Steady (cmdLadderWrite s).state := by
  obtain e | ⟨l, k, g, ok, e⟩ := cmdLadderWrite_cases s <;> rw [e]
  · exact .refl s
  · exact State.steady_rung ok

theorem steady_cmdLineConfig (s : State) : s.Steady (cmdLineConfig s).state := by
  obtain e | ⟨l, p, quota, mode, keepalive, -, -, -, -, -, e⟩ := cmdLineConfig_cases s <;> rw [e]
  · exact .refl s
  · exact .of_outer (s.outer_modLine _ _)

theorem steady_cmdLineReset (s : State) : s.Steady (cmdLineReset s).state := by
  obtain e | ⟨l, e⟩ := cmdLineReset_cases s <;> rw [e]
  · exact .refl s
  · exact .of_outer ((s.outer_modLine _ _).trans (State.outer_lineLeavesUp _ _))

theorem steady_cmdLineAck (s : State) : s.Steady (cmdLineAck s).state := by
  obtain e | ⟨l, c, e⟩ := cmdLineAck_cases s <;> rw [e]
  · exact .refl s
  · exact .of_outer (s.outer_modLine _ _)

theorem steady_cmdClearTable (s : State) : s.Steady (cmdClearTable s).state := by
  have visits : s.Outer (s.forHandles fun h t => t.clearVisit h) :=
    s.outer_forHandles fun h t => t.outer_clearVisit h
  rw [cmdClearTable_state]
  generalize s.forHandles (fun h t => t.clearVisit h) = u at visits ⊢
  exact (State.Steady.of_outer visits).trans (.of_eq rfl)

theorem steady_same {s t : State} (e : t = s) : s.Steady t := e ▸ .refl s

theorem steady_commandOf (code : Word) (s : State) : s.Steady (commandOf code s).state :=
  commandOf_cases (P := fun body => s.Steady (body s).state)
    (steady_cmdAdmit s) (steady_same (cmdFind_state s)) (steady_same (cmdRead_state s)) (steady_cmdRebind s)
    (steady_cmdCap s) (steady_cmdRenegotiate s) (steady_cmdRetire s) (steady_same (cmdNextChange_state s))
    (steady_cmdAckChange s) (steady_cmdProfileStage s) (steady_cmdProfileLoad s) (steady_cmdProfileCommit s)
    (steady_same (cmdProfileRead_state s)) (steady_cmdLadderWrite s) (steady_same (cmdLadderRead_state s))
    (steady_cmdLineConfig s) (steady_same (cmdLineRead_state s)) (steady_cmdLineReset s) (steady_cmdLineAck s)
    (steady_cmdClearTable s) (steady_same (cmdIdent_state s)) (steady_same (cmdUnknown_state s)) code

end Sys2Proof.Machine
end

section
/-! SUPPORT. Frames, expiries, queries, the lanes and the sweep are steady, and so is every command but a reset. -/
namespace Sys2Proof.Machine

variable (s : State)

/-! ### Frames -/

theorem State.outer_takeLineUp (l : LineId) (k : Step) : s.Outer (s.takeLineUp l k) := by
  unfold State.takeLineUp
  simp only
  split
  · exact (s.outer_modLine _ _).trans (State.outer_lineBecomesUp _ _)
  · split
    · exact (s.outer_modLine _ _).trans (State.outer_ceilingLowered _ _ _)
    · exact s.outer_modLine _ _

theorem State.outer_takeLineDown (l : LineId) : s.Outer (s.takeLineDown l) := by
  unfold State.takeLineDown
  simp only
  split
  · exact (s.outer_modLine _ _).trans (State.outer_lineLeavesUp _ _)
  · exact s.outer_modLine _ _

theorem State.outer_takeMalformed (l : LineId) : s.Outer (s.takeMalformed l) := by
  unfold State.takeMalformed
  simp only
  split
  · exact (s.outer_modLine _ _).trans (State.outer_loseLine _ _)
  · exact s.outer_modLine _ _

theorem State.outer_toStation (l : LineId) (st : Station) {f : State → Handle → Record → State}
    (hf : ∀ t h r, State.Outer t (f t h r)) : s.Outer ((s.heardFrame l).toStation l st f) := by
  refine State.Outer.trans (t := s.heardFrame l) (s.outer_modLine l _) ?_
  unfold State.toStation
  split
  · exact State.outer_modLine _ _ _
  · split
    · exact State.outer_modLine _ _ _
    · exact hf _ _ _

theorem State.outer_capabilityRecord (h : Handle) (r : Record) (mask : StepSet) :
    s.Outer (s.capabilityRecord h r mask) := by
  have moved : ∀ x, s.Outer (((s.putRecord h x).requeue h .remote).handOut r.line) := fun x =>
    ((s.outer_putRecord h x).trans (State.outer_requeue _ _ _)).trans (State.outer_handOut _ _)
  unfold State.capabilityRecord
  simp only
  split
  case h_1 =>
    split
    · exact .refl s
    · split
      · unfold State.capabilityOffered
        simp only
        split
        · exact (s.outer_putRecord _ _).trans (State.outer_abandonAndFail _ _ _ _)
        · exact (s.outer_putRecord _ _).trans (State.outer_sendDown _ _ _)
      · unfold State.capabilityOrdered
        simp only
        split
        · exact s.outer_putRecord _ _
        · exact (s.outer_putRecord _ _).trans (State.outer_abandonAndFail _ _ _ _)
  case h_2 | h_3 => exact moved _
  case h_4 | h_5 => exact s.outer_putRecord _ _
  all_goals exact s.outer_sendDown _ _

theorem State.steady_lineBorn (l : LineId) (st : Station) (mask : StepSet) : s.Steady (s.lineBorn l st mask) := by
  have refused : ∀ t : State, t.Outer (t.refuseLineBorn l st) := fun t =>
    (t.outer_sendDown _ _).trans (State.outer_modLine _ _ _)
  unfold State.lineBorn
  split
  · exact .of_outer (refused s)
  · split
    · exact .of_outer (refused s)
    · exact (State.Steady.of_eq rfl).trans (.of_outer (refused s.setTableFull))
    next placed => exact (State.steady_place placed).trans (.of_outer (State.outer_handOut _ _))

theorem State.steady_takeCapability (l : LineId) (st : Station) (mask : StepSet) :
    s.Steady ((s.heardFrame l).takeCapability l st mask) := by
  refine State.Steady.trans (t := s.heardFrame l) (.of_outer (s.outer_modLine l _)) ?_
  unfold State.takeCapability
  split
  · exact State.steady_lineBorn _ _ _ _
  · split
    · exact State.steady_lineBorn _ _ _ _
    · exact .of_outer (State.outer_capabilityRecord _ _ _ _)

theorem State.outer_takeOutcome (w : OutcomeReason) (h : Handle) (r : Record) : s.Outer (State.takeOutcome w s h r) := by
  unfold State.takeOutcome
  split
  · exact s.outer_modLine _ _
  · split
    · exact (s.outer_failAttempt _ _).trans (State.outer_handOut _ _)
    · exact s.outer_modLine _ _

theorem State.outer_takeConfirm (k : Step) (h : Handle) (r : Record) : s.Outer (State.takeConfirm k s h r) := by
  unfold State.takeConfirm
  split
  · exact s.outer_modLine _ _
  · split
    · exact s.outer_modLine _ _
    · split
      · exact s.outer_succeed _ _ _
      · exact s.outer_abandonAndFail _ _ _

theorem State.outer_takeCarrier (w : CarrierReport) (h : Handle) (r : Record) : s.Outer (State.takeCarrier w s h r) := by
  unfold State.takeCarrier
  split
  · unfold State.carrierUp
    simp only
    split
    all_goals exact s.outer_putRecord _ _
  · unfold State.carrierDown
    simp only
    split
    case h_2 => exact .refl s
    case h_3 => exact (s.outer_putRecord _ _).trans (State.outer_abandonAndFail _ _ _ _)
    all_goals exact s.outer_putRecord _ _

theorem State.outer_ceilingReact (h : Handle) (q : Option Quality) (r : Record) : s.Outer (s.ceilingReact h q r) := by
  unfold State.ceilingReact
  split
  · split
    case h_1 =>
      split
      · exact s.outer_requeue _ _
      · split
        · exact s.outer_requeue _ _
        · exact .refl s
    case h_2 =>
      split
      · exact s.outer_classMove _ _
      · exact .refl s
    all_goals exact .refl s
  · exact .refl s

theorem State.outer_takeQuality (v : BitVec 8) (h : Handle) (r : Record) : s.Outer (State.takeQuality v s h r) := by
  unfold State.takeQuality
  simp only
  split
  · exact .refl s
  · split
    · exact s.outer_putRecord _ _
    · exact ((s.outer_putRecord _ _).trans (State.outer_ceilingReact _ _ _ _)).trans (State.outer_handOut _ _)

/-! ### Expiries -/

theorem State.outer_expire (h : Handle) {kind : Record → Bool} {f : State → Record → State}
    (hf : ∀ r, s.Outer (f s r)) : s.Outer (s.expire h kind f) := by
  obtain e | ⟨r, t, -, -, -, -, -, e⟩ := s.expire_cases h kind f <;> rw [e]
  · exact .refl s
  · exact hf r

/-! ### Queries -/

theorem State.outer_applyNamed (handle : BitVec 9) (e : Epoch) {f : Handle → Record → Applied}
    (hf : ∀ h r, s.Outer (f h r).state) : s.Outer (s.applyNamed handle e f).state := by
  unfold State.applyNamed
  split
  · split
    · exact .refl s
    · exact hf _ _
  · exact .refl s

theorem State.applyFind_state (line : BitVec 4) (st : Station) : (s.applyFind line st).state = s := by
  unfold State.applyFind
  repeat' split
  all_goals rfl

theorem State.holdRecord_cases (e : Epoch) (h : Handle) (r : Record) : (s.holdRecord e h r).state = s ∨
    r.state ≠ .retiring ∧ r.holds ≠ Config.holdLimit ∧
      (s.holdRecord e h r).state = s.putRecord h { r with holds := r.holds + 1 } := by
  unfold State.holdRecord
  split
  · exact .inl rfl
  next live =>
    split
    · exact .inl rfl
    next room => exact .inr ⟨live, room, rfl⟩

theorem State.releaseRecord_cases (e : Epoch) (h : Handle) (r : Record) : (s.releaseRecord e h r).state = s ∨
    r.holds ≠ 0 ∧
      ((r.state = .retiring ∧ r.holds - 1 = 0 ∧
          (s.releaseRecord e h r).state = (s.putRecord h { r with holds := r.holds - 1 }).leaveTable h) ∨
        (¬(r.state = .retiring ∧ r.holds - 1 = 0) ∧
          (s.releaseRecord e h r).state = s.putRecord h { r with holds := r.holds - 1 })) := by
  unfold State.releaseRecord
  split
  · exact .inl rfl
  next held =>
    refine .inr ⟨held, ?_⟩
    simp only
    split
    next last => exact .inl ⟨last.1, last.2, rfl⟩
    next more => exact .inr ⟨more, rfl⟩

theorem State.outer_holdRecord (e : Epoch) (h : Handle) (r : Record) : s.Outer (s.holdRecord e h r).state := by
  obtain e | ⟨-, -, e⟩ := s.holdRecord_cases e h r <;> rw [e]
  · exact .refl s
  · exact s.outer_putRecord _ _

theorem State.outer_releaseRecord (e : Epoch) (h : Handle) (r : Record) : s.Outer (s.releaseRecord e h r).state := by
  obtain e | ⟨-, ⟨-, -, e⟩ | ⟨-, e⟩⟩ := s.releaseRecord_cases e h r <;> rw [e]
  · exact .refl s
  · exact (s.outer_putRecord _ _).trans (State.outer_leaveTable _ _)
  · exact s.outer_putRecord _ _

/-- A change of the lookup port that keeps what its lanes hold short of the whole. -/
theorem State.steady_lookup {s : State} {p : LookupPort} (ok : s.lookup.LanesOk → p.LanesOk) :
    s.Steady { s with lookup := p } := ⟨rfl, rfl, rfl, rfl, rfl, ok, id, id, fun _ => id⟩

theorem State.steady_discardQuery : s.Steady s.discardQuery :=
  (State.Steady.of_eq (t := s.setLookupOverrun) rfl).trans (State.steady_lookup id)

theorem State.steady_query (tag : Tag) {f : State → Applied} (hf : s.Outer (f s).state) : s.Steady (s.query tag f) := by
  obtain ⟨-, e⟩ | ⟨-, -, -, e⟩ | ⟨-, -, -, e⟩ := s.query_cases tag f <;> rw [e]
  · exact .refl s
  · exact s.steady_discardQuery
  · refine (State.Steady.of_outer hf).trans (State.steady_lookup fun ⟨bytes, bits, sent, _⟩ => ?_)
    exact ⟨bytes, bits, sent, nofun⟩

/-! ### The sweep -/

theorem State.steady_sweep {s : State} {w : Option Sweep} : s.Steady { s with sweep := w } := .of_eq rfl

theorem State.steady_visitRecord (h : Handle) (r : Record) (w : Sweep) : s.Steady (s.visitRecord h r w) := by
  have move : ∀ w2 : Sweep, s.Steady ((({ s with sweep := some w2 } : State).requeue h .profile).handOut r.line) := fun w2 =>
    State.steady_sweep.trans (.of_outer ((State.outer_requeue _ _ _).trans (State.outer_handOut _ _)))
  unfold State.visitRecord
  simp only
  split
  case h_1 | h_2 =>
    split
    · exact move _
    · exact State.steady_sweep
  case h_3 => exact State.steady_sweep.trans (.of_outer (State.outer_putRecord _ _ _))
  all_goals exact State.steady_sweep

theorem State.steady_sweepVisit : s.Steady s.sweepVisit := by
  unfold State.sweepVisit
  split
  · exact .refl s
  · split
    · simp only
      split
      · exact State.steady_sweep
      · split
        · exact s.steady_visitRecord _ _ _
        · exact State.steady_sweep
    · exact .refl s

theorem State.steady_sweepEnd : s.Steady s.sweepEnd := by
  unfold State.sweepEnd
  split
  · exact .refl s
  · split
    · exact .refl s
    · exact .of_eq rfl

/-! ### The register window -/

theorem State.steady_issue (code : Word) (args : List Word) : s.Steady (s.issue code args (commandOf code)) :=
  State.issue_lift .refl State.Steady.samePart (steady_commandOf code) s code args

theorem State.steady_writeGo : s.Steady s.writeGo :=
  State.writeGo_lift .refl State.Steady.samePart steady_commandOf s

theorem State.writeMailbox_eq (w : MailboxWord) (v : Word) : ∃ port, s.writeMailbox w v = { s with port := port } := by
  unfold State.writeMailbox
  split
  · exact ⟨_, rfl⟩
  · split <;> exact ⟨_, rfl⟩

/-- A write to the window writes GO, or changes the port's words, the flags and ENABLES alone. -/
theorem State.writeWord_cases (a : BitVec 5) (v : Word) : s.writeWord a v = s.writeGo ∨
    ∃ port flags enables, s.writeWord a v = { s with port := port, flags := flags, enables := enables } := by
  have same : ∃ port flags enables, s = { s with port := port, flags := flags, enables := enables } :=
    ⟨s.port, s.flags, s.enables, rfl⟩
  have mailbox : ∀ w, ∃ port flags enables, s.writeMailbox w v = { s with port := port, flags := flags, enables := enables } := by
    intro w
    obtain ⟨port, e⟩ := s.writeMailbox_eq w v
    exact ⟨port, s.flags, s.enables, e⟩
  unfold State.writeWord
  simp only
  split
  · split
    · exact .inl rfl
    · exact .inr same
  refine .inr ?_
  split
  · exact ⟨_, _, _, rfl⟩
  split
  · exact ⟨_, _, _, rfl⟩
  split
  · exact ⟨_, _, _, rfl⟩
  split
  · exact mailbox _
  split
  · exact mailbox _
  · exact same

theorem State.steady_writeWord (a : BitVec 5) (v : Word) : s.Steady (s.writeWord a v) := by
  obtain e | ⟨port, flags, enables, e⟩ := s.writeWord_cases a v <;> rw [e]
  · exact s.steady_writeGo
  · exact .of_eq rfl

/-! ### Every command -/

/-- What a command does when a condition holds, and else nothing. -/
theorem State.Steady.ite {s t : State} {c : Prop} [Decidable c] (k : s.Steady t) : s.Steady (if c then t else s) := by
  split
  · exact k
  · exact .refl s

theorem exec_steady {c : Instr} (notReset : isResetEvent c = false) : ∃ t, exec c s = .next t ∧ s.Steady t := by
  by_cases host : hostCommand? c = none
  · cases c
    case goWhileBusy => exact ⟨_, rfl, .ite s.steady_writeGo⟩
    case mailboxWrite w v =>
      obtain ⟨port, e⟩ := s.writeMailbox_eq w v
      exact ⟨_, rfl, .ite (.of_eq (by rw [e]))⟩
    case flagsWrite v => exact ⟨_, rfl, .ite (.of_eq rfl)⟩
    case enablesWrite v => exact ⟨_, rfl, .ite (.of_eq rfl)⟩
    case portStatusWrite v => exact ⟨_, rfl, .ite (.of_eq rfl)⟩
    case registerWrite a v => exact ⟨_, rfl, .ite (s.steady_writeWord a v)⟩
    case sweepVisit => exact ⟨_, rfl, .ite s.steady_sweepVisit⟩
    case commitSweepEnd => exact ⟨_, rfl, .ite s.steady_sweepEnd⟩
    case lineUp l k => exact ⟨_, rfl, .ite (.of_outer (s.outer_takeLineUp l k))⟩
    case lineDown l => exact ⟨_, rfl, .ite (.of_outer (s.outer_takeLineDown l))⟩
    case alive l => exact ⟨_, rfl, .ite (.of_outer (s.outer_modLine l _))⟩
    case capability l st mask => exact ⟨_, rfl, .ite (s.steady_takeCapability l st mask)⟩
    case outcome l st w => exact ⟨_, rfl, .ite (.of_outer (s.outer_toStation l st (State.outer_takeOutcome · w)))⟩
    case confirm l st k => exact ⟨_, rfl, .ite (.of_outer (s.outer_toStation l st (State.outer_takeConfirm · k)))⟩
    case carrier l st w => exact ⟨_, rfl, .ite (.of_outer (s.outer_toStation l st (State.outer_takeCarrier · w)))⟩
    case quality l st v => exact ⟨_, rfl, .ite (.of_outer (s.outer_toStation l st (State.outer_takeQuality · v)))⟩
    case malformedFrame l => exact ⟨_, rfl, .ite (.of_outer (s.outer_takeMalformed l))⟩
    case frameTransmission l => exact ⟨_, rfl, .ite (.of_outer (s.outer_modLine l _))⟩
    case frameTransmissionComplete l => exact ⟨_, rfl, .ite (.of_outer (s.outer_modLine l _))⟩
    case silenceExpiry l =>
      refine ⟨_, rfl, ?_⟩
      split
      · exact .refl s
      · exact .ite (.of_outer (s.outer_loseLine l))
    case negotiationTimerExpiry h =>
      exact ⟨_, rfl, .of_outer (s.outer_expire h fun r => s.outer_abandonAndFail h r .timeout)⟩
    case confirmTimerExpiry h =>
      exact ⟨_, rfl, .of_outer (s.outer_expire h fun r => s.outer_abandonAndFail h r .timeout)⟩
    case holdoverExpiry h =>
      exact ⟨_, rfl, .of_outer (s.outer_expire h fun r =>
        ((s.outer_putRecord _ _).trans (State.outer_requeue _ _ _)).trans (State.outer_handOut _ _))⟩
    case backoffExpiry h =>
      exact ⟨_, rfl, .of_outer (s.outer_expire h fun r => (s.outer_requeue _ _).trans (State.outer_handOut _ _))⟩
    case graceExpiry h => exact ⟨_, rfl, .of_outer (s.outer_expire h fun _ => s.outer_leaveTable h)⟩
    case lookupFind tag l st =>
      exact ⟨_, rfl, s.steady_query tag (by rw [State.applyFind_state]; exact .refl s)⟩
    case peek tag h e => exact ⟨_, rfl, s.steady_query tag (s.outer_applyNamed h e fun _ _ => .refl s)⟩
    case hold tag h e => exact ⟨_, rfl, s.steady_query tag (s.outer_applyNamed h e (s.outer_holdRecord e))⟩
    case release tag h e => exact ⟨_, rfl, s.steady_query tag (s.outer_applyNamed h e (s.outer_releaseRecord e))⟩
    case badQuery tag => exact ⟨_, rfl, s.steady_query tag (.refl s)⟩
    case queryDiscard => exact ⟨_, rfl, .ite s.steady_discardQuery⟩
    case answerSent =>
      exact ⟨_, rfl, .ite (State.steady_lookup fun ⟨bytes, bits, _, _⟩ => ⟨bytes, bits, by simp, fun _ => rfl⟩)⟩
    case idleOfTwoByteTimes rx =>
      refine ⟨_, rfl, ?_⟩
      split
      · exact .refl s
      · cases rx
        · exact .of_outer (s.outer_modLine _ _)
        · exact State.steady_lookup id
    case powerOn | powerOnEnd | resetn | resetnRelease => cases notReset
    all_goals cases host
  · obtain ⟨⟨code, args⟩, e⟩ := Option.ne_none_iff_exists'.mp host
    exact ⟨_, exec_hostCommand e s, s.steady_issue code args⟩

/-- Settles O3: a reset command keeps queue and time base by its own values, every other command is steady. -/
theorem everyCommandAnswersNext : Obligations.EveryCommandAnswersNext := by
  intro c s
  cases reset : isResetEvent c
  · obtain ⟨t, e, keep⟩ := exec_steady s reset
    exact ⟨t, e, keep.pending, keep.now⟩
  · cases c
    case powerOn | powerOnEnd | resetn | resetnRelease => exact ⟨_, rfl, rfl, rfl⟩
    all_goals cases reset

end Sys2Proof.Machine
end


section
/-! What one record can do. Every operation on the table moves a record by one of the moves listed here; what a rule says of every
record is then shown move by move. -/

namespace Sys2Proof.Machine

/-! ### The record operations as one record each -/

theorem recorded_zero (c : BitVec 5) (p : Profile) : recorded c 0 p = c := by simp [recorded]

theorem recorded_recorded (c a b : BitVec 5) (p : Profile) :
    recorded (recorded c a p) b p = recorded c (a ||| b) p := by
  simp only [recorded, BitVec.or_assoc]
  congr 1
  ext i hi
  simp only [BitVec.getElem_or, BitVec.getElem_and, Bool.and_or_distrib_right]

theorem Record.note_eq (p : Profile) (k : BitVec 5) (r : Record) :
    Record.note p k r = { r with changes := recorded r.changes k p } := rfl

theorem Record.enter_eq (p : Profile) (st : RecState) (r : Record) :
    Record.enter p st r = { r with state := st, changes := recorded r.changes kindState p } := rfl

/-- The agreed step lost (R20). -/
theorem Record.dropAgreed_eq (p : Profile) (r : Record) : Record.dropAgreed p r = { r with
    agreed := none
    generation := if r.agreed.isSome then r.generation + 1 else r.generation
    changes := recorded r.changes (if r.agreed.isSome then kindRate else 0) p } := by
  cases r with
  | mk line station profile state cause attempt remoteMask agreed =>
    cases agreed <;> simp [Record.dropAgreed, Record.note_eq, recorded]

/-- The agreed step taken (R20). -/
theorem Record.takeAgreed_eq (p : Profile) (k : Step) (r : Record) : Record.takeAgreed p k r = { r with
    agreed := some k
    generation := if r.agreed = some k then r.generation else r.generation + 1
    changes := recorded r.changes (if r.agreed = some k then 0 else kindRate) p } := by
  unfold Record.takeAgreed
  split
  · next e => rw [recorded_zero, ← e]
  · rfl

/-- A frame's mask taken (R8, R20, R88). -/
theorem Record.takeMask_eq (p : Profile) (m : StepSet) (r : Record) : Record.takeMask p m r = { r with
    remoteMask := some m
    agreed := r.agreed.filter (StepSet.has m)
    generation := if r.agreed.all (StepSet.has m) then r.generation else r.generation + 1
    changes := recorded r.changes ((if r.remoteMask = some m then 0 else kindRemote) |||
      (if r.agreed.all (StepSet.has m) then 0 else kindRate)) p } := by
  have remote : (if r.remoteMask = some m then r else Record.note p kindRemote { r with remoteMask := some m }) =
      { r with
        remoteMask := some m
        changes := recorded r.changes (if r.remoteMask = some m then 0 else kindRemote) p } := by
    split
    · next e => rw [recorded_zero, ← e]
    · rfl
  unfold Record.takeMask
  rw [remote]
  cases ha : r.agreed with
  | none => simp
  | some k =>
    cases hk : StepSet.has m k with
    | true => simp [hk, Option.filter]
    | false => simp [hk, Option.filter, Record.dropAgreed_eq, recorded_recorded]

/-- A sample moves the quality fields alone (R49 to R52). -/
theorem Record.sample_frame (p : Profile) (l : Ladder) (v : BitVec 8) (r : Record) :
    ∃ quality rise fall blocked changes, Record.sample p l v r = { r with
      quality := quality, riseCount := rise, fallCount := fall, forwardBlocked := blocked, changes := changes } := by
  unfold Record.sample
  split
  · exact ⟨_, _, _, _, _, rfl⟩
  · unfold Record.laterSample
    extract_lets rise fall raised lowered ceiling r1
    split
    · exact ⟨_, _, _, _, _, rfl⟩
    · exact ⟨_, _, _, _, _, rfl⟩

/-! ### Moves -/

/-- What beside a record decides how it moves: the profiles, the ladders, the time and which lines are UP. -/
structure Env where
  profileOf : Fin 16 → Profile
  valid : Fin 16 → Bool
  ladders : Vector Ladder 4
  now : Nat
  up : LineId → Bool

/-- What a state gives its records to move by. -/
def State.env (s : State) : Env :=
  { profileOf := s.profileOf, valid := s.isValid, ladders := s.ladders, now := s.now, up := s.lineIsUp }

/-- A record moved toward WAITING with a cause (R82, R40, R54). -/
def Record.requeued (e : Env) (c : Cause) (r : Record) : Record :=
  if e.up r.line then
    Record.enter (e.profileOf r.profile) .waiting { r with cause := some c, timer := none }
  else
    Record.enter (e.profileOf r.profile) .parked
      (Record.dropAgreed (e.profileOf r.profile) { r with cause := some c, timer := none })

/-- A record whose QUALITY_UP attempt has failed, back in AGREED (R99). -/
def Record.returned (e : Env) (r : Record) : Record :=
  Record.enter (e.profileOf r.profile) .agreed
    { r with attempt := none, timer := none, cause := none, forwardBlocked := true }

/-- A record passed on into HOLDOVER (R109, R111). -/
def Record.heldOver (e : Env) (r : Record) : Record :=
  Record.enter (e.profileOf r.profile) .holdover
    { r with timer := some { start := e.now, duration := 10 * (e.profileOf r.profile).holdoverTime } }

/-- What becomes of a record whose attempt fails (R98, R99, R111). -/
inductive Record.Fails (e : Env) (r : Record) : Record → Prop
  /-- BACKOFF, while the retry limit allows another attempt. -/
  | backoff (again : r.attempts + 1 ≤ (e.profileOf r.profile).retryLimit) :
    Record.Fails e r (Record.enter (e.profileOf r.profile) .backoff
      { Record.dropAgreed (e.profileOf r.profile) { r with attempt := none, timer := none } with
        attempts := r.attempts + 1
        timer := some { start := e.now, duration := backoffMs (e.profileOf r.profile) (r.attempts + 1) } })
  /-- FAILED, when it does not. -/
  | failed : Record.Fails e r (Record.enter (e.profileOf r.profile) .failed
      { Record.dropAgreed (e.profileOf r.profile) { r with attempt := none, timer := none } with
        attempts := r.attempts + 1 })
  /-- A QUALITY_UP attempt that lost its carrier. -/
  | noCarrier (agreed : r.agreed.isSome = true) (down : r.carrier = .down) :
    Record.Fails e r (Record.heldOver e
      { r with attempt := none, timer := none, cause := none, forwardBlocked := true })
  /-- A QUALITY_UP attempt: the agreement stands. -/
  | returned (agreed : r.agreed.isSome = true) (up : r.carrier ≠ .down) : Record.Fails e r (Record.returned e r)
  /-- A QUALITY_UP attempt whose carrier is DOWN. -/
  | passed (agreed : r.agreed.isSome = true) (down : r.carrier = .down) :
    Record.Fails e r (Record.heldOver e (Record.returned e r))
  /-- A QUALITY_UP attempt whose agreement no longer passes the check of R96. -/
  | requeued (c : Cause) : Record.Fails e r (Record.requeued e c (Record.returned e r))

/-- The record an attempt that succeeds leaves (R95). -/
def Record.succeeded (e : Env) (k : Step) (r : Record) : Record :=
  Record.enter (e.profileOf r.profile) .agreed
    { Record.takeAgreed (e.profileOf r.profile) k r with
      attempt := none, cause := none, timer := none, attempts := 0, carrier := .up, forwardBlocked := false }

/-- The moves of a record but for the success of an attempt. Where `g` holds, only a WAITING record takes the grant. -/
inductive Record.Move (g : Prop) (e : Env) (r : Record) : Record → Prop
  | override (o : Option Step) : Record.Move g e r { r with capOverride := o }
  | rerun : Record.Move g e r { r with attempt := r.attempt.map fun a => { a with rerun := true } }
  | sample (v : BitVec 8) : Record.Move g e r
      (Record.sample (e.profileOf r.profile) e.ladders[(e.profileOf r.profile).ladder] v r)
  | bind (p : Fin 16) (valid : e.valid p = true) : Record.Move g e r { r with profile := p }
  | acknowledge (kinds : BitVec 5) : Record.Move g e r { r with changes := r.changes &&& ~~~kinds }
  | hold (live : r.state ≠ .retiring) (room : r.holds ≠ Config.holdLimit) :
    Record.Move g e r { r with holds := r.holds + 1 }
  | release (stays : ¬(r.state = .retiring ∧ r.holds - 1 = 0)) : Record.Move g e r { r with holds := r.holds - 1 }
  | carrier (x : Carrier) (known : x ≠ .unknown) (holdover : r.state ≠ .holdover) (agreed : r.state = .agreed → x = .up) :
    Record.Move g e r { r with carrier := x }
  | retry (failed : r.state = .failed) : Record.Move g e r { r with attempts := 0 }
  | classMove (waiting : r.state = .waiting) (c : Cause) : Record.Move g e r { r with cause := some c }
  | mask (m : StepSet) (state : r.state = .waiting ∨ r.state = .backoff ∨ r.state = .negotiating)
    (kept : r.state = .negotiating → ∀ k, r.orderedStep = some k → StepSet.has m k = true) :
    Record.Move g e r (Record.takeMask (e.profileOf r.profile) m r)
  | order (m : StepSet) (a : Attempt) (k : Step) (state : r.state = .negotiating)
    (offer : StepSet.has a.offer k = true) (mask : StepSet.has m k = true) :
    Record.Move g e r { Record.takeMask (e.profileOf r.profile) m r with
      attempt := some { a with phase := .ordered k }
      timer := some { start := e.now, duration := 10 * (e.profileOf r.profile).confirmTimeout } }
  | fail (u : Record) (state : r.state = .negotiating) (f : Record.Fails e r u) : Record.Move g e r u
  | failMasked (m : StepSet) (u : Record) (state : r.state = .negotiating)
    (f : Record.Fails e (Record.takeMask (e.profileOf r.profile) m r) u) : Record.Move g e r u
  | start (waiting : g → r.state = .waiting) (offer : StepSet) :
    Record.Move g e r { Record.enter (e.profileOf r.profile) .negotiating r with
      attempt := some { phase := .offered, offer := offer, rerun := false }
      timer := some { start := e.now, duration := 10 * (e.profileOf r.profile).negTimeout } }
  | requeue (c : Cause) (state : r.state = .agreed ∨ r.state = .holdover ∨ r.state = .backoff ∨ r.state = .parked ∨
      (r.state = .failed ∧ r.attempts = 0)) : Record.Move g e r (Record.requeued e c r)
  | holdoverEnds (c : Cause) (state : r.state = .holdover) :
    Record.Move g e r (Record.requeued e c (Record.dropAgreed (e.profileOf r.profile) r))
  | remote (c : Cause) (m : StepSet) (state : r.state = .agreed) :
    Record.Move g e r (Record.requeued e c (Record.takeMask (e.profileOf r.profile) m r))
  | lineLeftUp (s : State) (env : s.env = e) (down : e.up r.line = false) : Record.Move g e r (Record.lineLeftUp s r)
  | carrierLost (state : r.state = .agreed) : Record.Move g e r (Record.heldOver e { r with carrier := .down })
  | carrierBack (state : r.state = .holdover) : Record.Move g e r
      (Record.enter (e.profileOf r.profile) .agreed { r with carrier := .up, timer := none })
  | retire (held : r.holds ≠ 0) (tm : Option Timer) (start : ∀ t ∈ tm, t.start = e.now) : Record.Move g e r
      { Record.enter (e.profileOf r.profile) .retiring (Record.dropAgreed (e.profileOf r.profile)
        { r with attempt := none, timer := none, cause := none }) with timer := tm }

/-- Any number of moves, one after another. -/
abbrev Record.Moves (g : Prop) (e : Env) : Record → Record → Prop := Relation.ReflTransGen (Record.Move g e)

/-- What every move keeps, any number of moves keep. -/
theorem Record.Moves.keep {g : Prop} {e : Env} {P : Record → Prop} (hP : ∀ r u, P r → Record.Move g e r u → P u)
    {r u : Record} (m : Record.Moves g e r u) (h : P r) : P u := by
  induction m with
  | refl => exact h
  | tail _ b ih => exact hP _ _ ih b

end Sys2Proof.Machine
end


section
/-! What the rules say of one record, move by move. -/

namespace Sys2Proof.Machine

/-- A requeued record, field by field. -/
theorem Record.requeued_eq (e : Env) (c : Cause) (r : Record) : Record.requeued e c r = { r with
    state := if e.up r.line then .waiting else .parked
    cause := some c
    timer := none
    agreed := if e.up r.line then r.agreed else none
    generation := if e.up r.line then r.generation else if r.agreed.isSome then r.generation + 1 else r.generation
    changes := recorded r.changes
      ((if e.up r.line then 0 else if r.agreed.isSome then kindRate else 0) ||| kindState) (e.profileOf r.profile) } := by
  unfold Record.requeued
  split
  · simp [Record.enter_eq]
  · simp [Record.enter_eq, Record.dropAgreed_eq, recorded_recorded]

/-- A record of a line that left UP, by its state (Table 7-4). -/
theorem Record.lineLeftUp_cases (s : State) (r : Record) :
    (r.state = .negotiating ∧ Record.lineLeftUp s r = Record.enter (s.profileOf r.profile) .parked
      (Record.dropAgreed (s.profileOf r.profile) { r with attempt := none, timer := none })) ∨
    (r.state = .waiting ∧ Record.lineLeftUp s r =
      Record.enter (s.profileOf r.profile) .parked (Record.dropAgreed (s.profileOf r.profile) r)) ∨
    (r.state = .backoff ∧ Record.lineLeftUp s r = Record.enter (s.profileOf r.profile) .parked { r with timer := none }) ∨
    (r.state = .agreed ∧ Record.lineLeftUp s r = Record.heldOver s.env { r with carrier := .down }) ∨
    ((r.state = .holdover ∨ r.state = .parked ∨ r.state = .failed ∨ r.state = .retiring) ∧ Record.lineLeftUp s r = r) := by
  unfold Record.lineLeftUp
  cases h : r.state <;> simp [Record.heldOver, State.env, State.startTimer]

/-! ### Key, line and profile (R12) -/

/-- No move changes the key of a record (R12). -/
def Record.SameKey (r u : Record) : Prop := u.line = r.line ∧ u.station = r.station

theorem Record.sameKey_requeued (e : Env) (c : Cause) (r : Record) : r.SameKey (Record.requeued e c r) := by
  simp [Record.SameKey, Record.requeued_eq]

theorem Record.Fails.sameKey {e : Env} {r u : Record} (f : Record.Fails e r u) : r.SameKey u := by
  cases f <;> simp [Record.SameKey, Record.requeued_eq, Record.returned, Record.heldOver, Record.enter_eq, Record.dropAgreed_eq]

theorem Record.sameKey_lineLeftUp (s : State) (r : Record) : r.SameKey (Record.lineLeftUp s r) := by
  obtain ⟨-, e⟩ | ⟨-, e⟩ | ⟨-, e⟩ | ⟨-, e⟩ | ⟨-, e⟩ := Record.lineLeftUp_cases s r <;>
    simp [Record.SameKey, e, Record.heldOver, Record.enter_eq, Record.dropAgreed_eq]

theorem Record.Move.sameKey {g : Prop} {e : Env} {r u : Record} (m : Record.Move g e r u) : r.SameKey u := by
  cases m with
  | fail _ _ f => exact f.sameKey
  | failMasked _ _ _ f => simpa [Record.SameKey, Record.takeMask_eq] using f.sameKey
  | lineLeftUp s => exact Record.sameKey_lineLeftUp s r
  | sample v =>
    obtain ⟨_, _, _, _, _, h⟩ := Record.sample_frame (e.profileOf r.profile) e.ladders[(e.profileOf r.profile).ladder] v r
    rw [h]
    exact ⟨rfl, rfl⟩
  | _ => simp [Record.SameKey, Record.requeued_eq, Record.heldOver, Record.enter_eq, Record.dropAgreed_eq, Record.takeMask_eq]

theorem Record.Moves.sameKey {g : Prop} {e : Env} {r u : Record} (m : Record.Moves g e r u) : r.SameKey u :=
  Record.Moves.keep (P := fun x => r.SameKey x) (fun _ _ a b => ⟨b.sameKey.1.trans a.1, b.sameKey.2.trans a.2⟩) m ⟨rfl, rfl⟩

/-! ### Presence of fields by state (R6, R7, R9, R122) -/

/-- The fields of a record are present or absent as its state asks. -/
abbrev Record.FieldsOk (r : Record) : Prop := r.AttemptOk ∧ r.AgreedOk ∧ r.TimerOk ∧ r.HoldsOk

theorem Record.fieldsOk_requeued {e : Env} {c : Cause} {r : Record} (attempt : r.attempt = none)
    (holds : r.holds ≤ Config.holdLimit) : (Record.requeued e c r).FieldsOk := by
  rw [Record.requeued_eq]
  cases e.up r.line <;> simp [Record.FieldsOk, Record.AttemptOk, Record.AgreedOk, Record.TimerOk, Record.HoldsOk, attempt, holds]

theorem Record.Fails.fieldsOk {e : Env} {r u : Record} (f : Record.Fails e r u) (holds : r.holds ≤ Config.holdLimit) :
    u.FieldsOk := by
  cases f with
  | requeued c => exact Record.fieldsOk_requeued rfl holds
  | _ => simp_all [Record.FieldsOk, Record.AttemptOk, Record.AgreedOk, Record.TimerOk, Record.HoldsOk,
      Record.returned, Record.heldOver, Record.enter_eq, Record.dropAgreed_eq]

theorem Record.Move.fieldsOk {g : Prop} {e : Env} {r u : Record} (h : r.FieldsOk) (m : Record.Move g e r u) :
    u.FieldsOk := by
  obtain ⟨attempt, agreed, timer, holds⟩ := h
  have idle : r.state ≠ .negotiating → r.attempt = none := fun n => by
    simpa using (not_congr attempt).2 n
  cases m with
  | fail _ _ f => exact f.fieldsOk holds.1
  | failMasked m _ _ f => exact f.fieldsOk (by simpa [Record.takeMask_eq] using holds.1)
  | requeue c state =>
    refine Record.fieldsOk_requeued (idle ?_) holds.1
    rcases state with h | h | h | h | ⟨h, -⟩ <;> simp [h]
  | holdoverEnds c state =>
    exact Record.fieldsOk_requeued (by simp [Record.dropAgreed_eq, idle, state]) (by simpa [Record.dropAgreed_eq] using holds.1)
  | remote c m state =>
    exact Record.fieldsOk_requeued (by simp [Record.takeMask_eq, idle, state]) (by simpa [Record.takeMask_eq] using holds.1)
  | lineLeftUp s =>
    obtain ⟨h, e⟩ | ⟨h, e⟩ | ⟨h, e⟩ | ⟨h, e⟩ | ⟨-, e⟩ := Record.lineLeftUp_cases s r
    case inr.inr.inr.inr => rw [e]; exact ⟨attempt, agreed, timer, holds⟩
    all_goals simp_all [Record.FieldsOk, Record.AttemptOk, Record.AgreedOk, Record.TimerOk, Record.HoldsOk,
      Record.heldOver, Record.enter_eq, Record.dropAgreed_eq]
  | sample v =>
    obtain ⟨_, _, _, _, _, h⟩ := Record.sample_frame (e.profileOf r.profile) e.ladders[(e.profileOf r.profile).ladder] v r
    rw [h]
    exact ⟨attempt, agreed, timer, holds⟩
  | override | bind | acknowledge | carrier | classMove | retry => exact ⟨attempt, agreed, timer, holds⟩
  | rerun => exact ⟨by simpa [Record.AttemptOk] using attempt, agreed, timer, holds⟩
  | hold live room => exact ⟨attempt, agreed, timer, Nat.lt_of_le_of_ne holds.1 room, fun h => absurd h live⟩
  | release stays => exact ⟨attempt, agreed, timer, Nat.le_trans (Nat.sub_le _ _) holds.1, fun h =>
      Nat.one_le_iff_ne_zero.2 fun z => stays ⟨h, z⟩⟩
  | mask m state kept =>
    refine ⟨by simpa [Record.takeMask_eq] using attempt, ⟨fun h => ?_, fun h => ?_⟩,
      by simpa [Record.takeMask_eq] using timer, by simpa [Record.takeMask_eq] using holds⟩
    · rcases state with n | n | n <;> simp [Record.takeMask_eq, n] at h
    · simp [Record.takeMask_eq] at h ⊢
      simp [agreed.2 h]
  | order | start | carrierLost | carrierBack | retire =>
    simp_all [Record.FieldsOk, Record.AttemptOk, Record.AgreedOk, Record.TimerOk, Record.HoldsOk,
      Record.heldOver, Record.enter_eq, Record.dropAgreed_eq, Record.takeMask_eq, Nat.one_le_iff_ne_zero]

/-! ### Steps and masks (R7, R88, R92) -/

/-- The agreed and the ordered step of a record lie in their masks. -/
abbrev Record.MasksOk (r : Record) : Prop := r.AttemptOk ∧ r.StepInMask ∧ r.OrderedOk

/-- Without an attempt the ordered step is absent, and a record that is not NEGOTIATING needs no more. -/
theorem Record.attempt_of_ordered {r : Record} {k : Step} (e : r.orderedStep = some k) : r.attempt.isSome = true := by
  unfold Record.orderedStep at e
  split at e
  next a ha => rw [ha]; rfl
  · cases e

theorem Record.masksOk_idle {r : Record} (attempt : r.attempt = none) (state : r.state ≠ .negotiating)
    (step : r.StepInMask) : r.MasksOk :=
  ⟨by simp [Record.AttemptOk, attempt, state], step, by simp [Record.OrderedOk, Record.orderedStep, attempt]⟩

theorem Record.stepInMask_takeMask (p : Profile) (m : StepSet) (r : Record) : (Record.takeMask p m r).StepInMask := by
  intro k
  simp only [Record.takeMask_eq, Option.any_some, Option.filter_eq_some_iff]
  exact fun h => h.2

theorem Record.stepInMask_requeued {e : Env} {c : Cause} {r : Record} (h : r.StepInMask) :
    (Record.requeued e c r).StepInMask := by
  rw [Record.requeued_eq]
  intro k
  cases e.up r.line
  · simp
  · exact h k

theorem Record.masksOk_requeued {e : Env} {c : Cause} {r : Record} (attempt : r.attempt = none) (h : r.StepInMask) :
    (Record.requeued e c r).MasksOk :=
  Record.masksOk_idle (by simpa [Record.requeued_eq] using attempt)
    (by rw [Record.requeued_eq]; cases e.up r.line <;> simp) (Record.stepInMask_requeued h)

theorem Record.Fails.masksOk {e : Env} {r u : Record} (f : Record.Fails e r u) (h : r.StepInMask) : u.MasksOk := by
  cases f with
  | requeued c => exact Record.masksOk_requeued rfl h
  | noCarrier | returned | passed => exact Record.masksOk_idle rfl nofun h
  | backoff | failed =>
    refine Record.masksOk_idle (by simp [Record.enter_eq, Record.dropAgreed_eq]) nofun ?_
    simp [Record.StepInMask, Record.enter_eq, Record.dropAgreed_eq]

theorem Record.Move.masksOk {g : Prop} {e : Env} {r u : Record} (h : r.MasksOk) (m : Record.Move g e r u) : u.MasksOk := by
  obtain ⟨attempt, step, ordered⟩ := h
  have idle : r.state ≠ .negotiating → r.attempt = none := fun n => by simpa using (not_congr attempt).2 n
  cases m with
  | fail _ _ f => exact f.masksOk step
  | failMasked m _ _ f => exact f.masksOk (Record.stepInMask_takeMask _ m r)
  | requeue c state =>
    refine Record.masksOk_requeued (idle ?_) step
    rcases state with h | h | h | h | ⟨h, -⟩ <;> simp [h]
  | holdoverEnds c state =>
    exact Record.masksOk_requeued (by simp [Record.dropAgreed_eq, idle, state])
      (by simp [Record.StepInMask, Record.dropAgreed_eq])
  | remote c m state =>
    exact Record.masksOk_requeued (by simp [Record.takeMask_eq, idle, state]) (Record.stepInMask_takeMask _ m r)
  | lineLeftUp s =>
    obtain ⟨h, e⟩ | ⟨h, e⟩ | ⟨h, e⟩ | ⟨h, e⟩ | ⟨-, e⟩ := Record.lineLeftUp_cases s r
    case inr.inr.inr.inr => rw [e]; exact ⟨attempt, step, ordered⟩
    all_goals
      rw [e]
      refine Record.masksOk_idle ?_ nofun ?_
      · simp [Record.heldOver, Record.enter_eq, Record.dropAgreed_eq, idle, h]
      · simp only [Record.StepInMask, Record.heldOver, Record.enter_eq, Record.dropAgreed_eq]
        intro k hk
        exact step k (by simp_all)
  | sample v =>
    obtain ⟨_, _, _, _, _, h⟩ := Record.sample_frame (e.profileOf r.profile) e.ladders[(e.profileOf r.profile).ladder] v r
    rw [h]
    exact ⟨attempt, step, ordered⟩
  | override | bind | acknowledge | carrier | classMove | retry | hold | release => exact ⟨attempt, step, ordered⟩
  | rerun =>
    refine ⟨by simpa [Record.AttemptOk] using attempt, step, ?_⟩
    cases ha : r.attempt with
    | none => simp [Record.OrderedOk, Record.orderedStep]
    | some a => simpa [Record.OrderedOk, Record.orderedStep, Record.offerBits, ha] using ordered
  | mask m state kept =>
    refine ⟨by simpa [Record.AttemptOk, Record.takeMask_eq] using attempt, Record.stepInMask_takeMask _ m r, fun k hk => ?_⟩
    have hk : r.orderedStep = some k := by simpa [Record.orderedStep, Record.takeMask_eq] using hk
    exact ⟨by simpa [Record.offerBits, Record.takeMask_eq] using (ordered k hk).1,
      by simpa [Record.takeMask_eq] using kept (attempt.1 (Record.attempt_of_ordered hk)) k hk⟩
  | order m a k state offer mask =>
    refine ⟨by simp [Record.AttemptOk, Record.takeMask_eq, state], Record.stepInMask_takeMask (e.profileOf r.profile) m r, ?_⟩
    rintro j ⟨⟩
    exact ⟨offer, by simpa [Record.takeMask_eq] using mask⟩
  | start => exact ⟨by simp [Record.AttemptOk, Record.enter_eq], step, by simp [Record.OrderedOk, Record.orderedStep]⟩
  | carrierLost state | carrierBack state => exact Record.masksOk_idle (idle (by simp [state])) nofun step
  | retire =>
    exact Record.masksOk_idle (by simp [Record.enter_eq, Record.dropAgreed_eq]) nofun
      (by simp [Record.StepInMask, Record.enter_eq, Record.dropAgreed_eq])

/-! ### Carrier (R109 to R111) -/

/-- The carrier is as the state asks, and an agreed step has a known one. -/
abbrev Record.CarriersOk (r : Record) : Prop := r.CarrierOk ∧ (r.agreed.isSome = true → r.carrier ≠ .unknown)

theorem Record.carriersOk_requeued {e : Env} {c : Cause} {r : Record} (h : r.agreed.isSome = true → r.carrier ≠ .unknown) :
    (Record.requeued e c r).CarriersOk := by
  rw [Record.requeued_eq]
  cases e.up r.line <;> simp_all [Record.CarriersOk, Record.CarrierOk]

theorem Record.Fails.carriersOk {e : Env} {r u : Record} (f : Record.Fails e r u)
    (h : r.agreed.isSome = true → r.carrier ≠ .unknown) : u.CarriersOk := by
  cases f with
  | requeued c => exact Record.carriersOk_requeued h
  | returned agreed up =>
    have known := h agreed
    simp only [Record.CarriersOk, Record.CarrierOk, Record.returned, Record.enter_eq]
    cases hc : r.carrier <;> simp_all
  | _ => simp_all [Record.CarriersOk, Record.CarrierOk, Record.returned, Record.heldOver, Record.enter_eq,
      Record.dropAgreed_eq]

theorem Record.Move.carriersOk {g : Prop} {e : Env} {r u : Record} (h : r.CarriersOk) (m : Record.Move g e r u) :
    u.CarriersOk := by
  obtain ⟨carrier, known⟩ := h
  have masked : ∀ p m, (Record.takeMask p m r).agreed.isSome = true → (Record.takeMask p m r).carrier ≠ .unknown := by
    intro p m
    cases ha : r.agreed <;> simp_all [Record.takeMask_eq]
  cases m with
  | fail _ _ f => exact f.carriersOk known
  | failMasked m _ _ f => exact f.carriersOk (masked _ m)
  | requeue c state => exact Record.carriersOk_requeued known
  | holdoverEnds c state => exact Record.carriersOk_requeued (by simp [Record.dropAgreed_eq])
  | remote c m state => exact Record.carriersOk_requeued (masked _ m)
  | lineLeftUp s =>
    obtain ⟨h, e⟩ | ⟨h, e⟩ | ⟨h, e⟩ | ⟨h, e⟩ | ⟨-, e⟩ := Record.lineLeftUp_cases s r
    case inr.inr.inr.inr => rw [e]; exact ⟨carrier, known⟩
    all_goals simp_all [Record.CarriersOk, Record.CarrierOk, Record.heldOver, Record.enter_eq, Record.dropAgreed_eq]
  | sample v =>
    obtain ⟨_, _, _, _, _, h⟩ := Record.sample_frame (e.profileOf r.profile) e.ladders[(e.profileOf r.profile).ladder] v r
    rw [h]
    exact ⟨carrier, known⟩
  | mask m state kept =>
    refine ⟨?_, masked _ m⟩
    rcases state with n | n | n <;> simp [Record.CarrierOk, Record.takeMask_eq, n]
  | order m a k state offer mask =>
    exact ⟨by simp [Record.CarrierOk, Record.takeMask_eq, state], masked (e.profileOf r.profile) m⟩
  | override | bind | acknowledge | classMove | retry | hold | release | rerun => exact ⟨carrier, known⟩
  | carrier | start | carrierLost | carrierBack | retire =>
    simp_all [Record.CarriersOk, Record.CarrierOk, Record.heldOver, Record.enter_eq, Record.dropAgreed_eq]

/-! ### Counts (R50, R51, R98) -/

/-- The counts of a record fit their ranges. -/
abbrev Record.CountsOk (r : Record) : Prop :=
  r.QualityCountsOk ∧ r.AttemptsOk ∧ (r.state ≠ .failed → r.state ≠ .retiring → r.attempts ≤ 7)

/-- A ladder never answers a value with a rise and a fall at once (R44, R50, R51). -/
theorem Ladder.Ok.not_rises_and_falls {l : Ladder} (ok : Ladder.Ok l) (c : Option Step) (v : BitVec 8) :
    ¬(l.rises c v = true ∧ l.falls c v = true) := by
  obtain ⟨within, rise, -⟩ := ok
  rintro ⟨up, down⟩
  cases c with
  | none => simp [Ladder.falls] at down
  | some k =>
    unfold Ladder.rises stepAbove at up
    unfold Ladder.falls at down
    have down : v.toNat < l[k].fall.toNat := by simpa using down
    by_cases hk : k.val + 1 < 12
    · have up : l[(⟨k.val + 1, hk⟩ : Step)].rise.toNat ≤ v.toNat := by simpa [hk] using up
      have := rise k ⟨k.val + 1, hk⟩ rfl
      have := within k
      omega
    · simp [hk] at up

theorem Record.qualityCountsOk_sample {p : Profile} {l : Ladder} {v : BitVec 8} {r : Record} (ladder : Ladder.Ok l)
    (range : p.InRange) (h : r.QualityCountsOk) : (Record.sample p l v r).QualityCountsOk := by
  obtain ⟨one, rise, fall⟩ := h
  obtain ⟨⟨-, riseMax⟩, ⟨-, fallMax⟩, -⟩ := range
  unfold Record.sample
  split
  · exact ⟨.inl rfl, Nat.zero_le _, Nat.zero_le _⟩
  · next q _ =>
    have single := ladder.not_rises_and_falls q.ceiling v
    have counts : (Record.laterSample p l v q r).riseCount =
          (if l.rises q.ceiling v = true ∧ r.riseCount + 1 < p.riseSamples then r.riseCount + 1 else 0) ∧
        (Record.laterSample p l v q r).fallCount =
          (if l.falls q.ceiling v = true ∧ r.fallCount + 1 < p.fallSamples then r.fallCount + 1 else 0) := by
      unfold Record.laterSample
      extract_lets rise fall raised lowered ceiling r1
      have hr : r1.riseCount =
          if l.rises q.ceiling v = true ∧ r.riseCount + 1 < p.riseSamples then r.riseCount + 1 else 0 := by
        show (if raised = true then 0 else rise) = _
        by_cases hu : l.rises q.ceiling v = true
        · by_cases n : r.riseCount + 1 < p.riseSamples
          · simp [raised, rise, hu, n, Nat.not_le.2 n]
          · simp [raised, rise, hu, n, Nat.not_lt.1 n]
        · simp [raised, rise, hu]
      have hf : r1.fallCount =
          if l.falls q.ceiling v = true ∧ r.fallCount + 1 < p.fallSamples then r.fallCount + 1 else 0 := by
        show (if lowered = true then 0 else fall) = _
        by_cases hd : l.falls q.ceiling v = true
        · by_cases n : r.fallCount + 1 < p.fallSamples
          · simp [lowered, fall, hd, n, Nat.not_le.2 n]
          · simp [lowered, fall, hd, n, Nat.not_lt.1 n]
        · simp [lowered, fall, hd]
      split
      · exact ⟨hr, hf⟩
      · exact ⟨hr, hf⟩
    rw [Record.QualityCountsOk, counts.1, counts.2]
    refine ⟨?_, ?_, ?_⟩
    · by_cases hu : l.rises q.ceiling v = true
      · exact .inr (if_neg fun h => single ⟨hu, h.1⟩)
      · exact .inl (if_neg fun h => hu h.1)
    · split <;> omega
    · split <;> omega

theorem Record.Fails.countsOk {e : Env} {r u : Record} (f : Record.Fails e r u)
    (range : (e.profileOf r.profile).retryLimit ≤ 7) (quality : r.QualityCountsOk) (attempts : r.attempts ≤ 7) :
    u.CountsOk := by
  cases f with
  | backoff again =>
    refine ⟨by simpa [Record.QualityCountsOk, Record.enter_eq, Record.dropAgreed_eq] using quality, ?_, fun _ _ => ?_⟩
    · simp only [Record.AttemptsOk, Record.enter_eq]; omega
    · simp only [Record.enter_eq]; omega
  | failed =>
    refine ⟨by simpa [Record.QualityCountsOk, Record.enter_eq, Record.dropAgreed_eq] using quality, ?_, fun h => absurd rfl h⟩
    simp only [Record.AttemptsOk, Record.enter_eq]; omega
  | requeued c =>
    refine ⟨by simpa [Record.requeued_eq, Record.returned, Record.enter_eq, Record.QualityCountsOk] using quality, ?_, fun _ _ => ?_⟩
    · simp only [Record.AttemptsOk, Record.requeued_eq, Record.returned, Record.enter_eq]; omega
    · simpa [Record.requeued_eq, Record.returned, Record.enter_eq] using attempts
  | noCarrier | returned | passed => exact ⟨quality, Nat.le_succ_of_le attempts, fun _ _ => attempts⟩

theorem Record.Move.countsOk {e : Env} {r u : Record} (ladders : ∀ l : Fin 4, Ladder.Ok e.ladders[l])
    (range : ∀ p, (e.profileOf p).InRange) (h : r.CountsOk) (m : Record.Move True e r u) : u.CountsOk := by
  obtain ⟨quality, attempts, seven⟩ := h
  have retry : ∀ p, (e.profileOf p).retryLimit ≤ 7 := fun p => by
    obtain ⟨-, -, -, -, -, h, -⟩ := range p
    exact h
  have requeue : ∀ c x, x.QualityCountsOk → x.attempts ≤ 7 → (Record.requeued e c x).CountsOk := fun c x q n =>
    ⟨by simpa [Record.requeued_eq, Record.QualityCountsOk] using q, by simp only [Record.AttemptsOk, Record.requeued_eq]; omega,
      fun _ _ => by simpa [Record.requeued_eq] using n⟩
  cases m with
  | fail _ state f => exact f.countsOk (retry _) quality (seven (by simp [state]) (by simp [state]))
  | failMasked m _ state f =>
    refine f.countsOk (retry _) (by simpa [Record.QualityCountsOk, Record.takeMask_eq] using quality) ?_
    simpa [Record.takeMask_eq] using seven (by simp [state]) (by simp [state])
  | requeue c state =>
    refine requeue c r quality ?_
    rcases state with h | h | h | h | ⟨-, h⟩
    case inr.inr.inr.inr => omega
    all_goals exact seven (by simp [h]) (by simp [h])
  | holdoverEnds c state =>
    exact requeue c _ (by simpa [Record.QualityCountsOk, Record.dropAgreed_eq] using quality)
      (by simpa [Record.dropAgreed_eq] using seven (by simp [state]) (by simp [state]))
  | remote c m state =>
    exact requeue c _ (by simpa [Record.QualityCountsOk, Record.takeMask_eq] using quality)
      (by simpa [Record.takeMask_eq] using seven (by simp [state]) (by simp [state]))
  | lineLeftUp s =>
    obtain ⟨h, e⟩ | ⟨h, e⟩ | ⟨h, e⟩ | ⟨h, e⟩ | ⟨-, e⟩ := Record.lineLeftUp_cases s r
    case inr.inr.inr.inr => rw [e]; exact ⟨quality, attempts, seven⟩
    all_goals simp_all [Record.CountsOk, Record.QualityCountsOk, Record.AttemptsOk, Record.heldOver, Record.enter_eq,
      Record.dropAgreed_eq]
  | sample v =>
    refine ⟨Record.qualityCountsOk_sample (ladders _) (range _) quality, ?_⟩
    obtain ⟨_, _, _, _, _, h⟩ := Record.sample_frame (e.profileOf r.profile) e.ladders[(e.profileOf r.profile).ladder] v r
    rw [h]
    exact ⟨attempts, seven⟩
  | override | bind | acknowledge | classMove | hold | release | rerun | carrier => exact ⟨quality, attempts, seven⟩
  | retry => exact ⟨quality, Nat.zero_le _, fun _ _ => Nat.zero_le _⟩
  | start waiting =>
    have n := waiting trivial
    exact ⟨quality, attempts, fun _ _ => seven (by simp [n]) (by simp [n])⟩
  | mask | order | carrierLost | carrierBack | retire =>
    simp_all [Record.CountsOk, Record.QualityCountsOk, Record.AttemptsOk, Record.heldOver, Record.enter_eq,
      Record.dropAgreed_eq, Record.takeMask_eq]

end Sys2Proof.Machine
end


section
/-! What the rules say of one record beside its line, its profile and the time, move by move. -/

namespace Sys2Proof.Machine

/-! ### Causes (R6) -/

theorem Record.Fails.causeOk {e : Env} {r u : Record} (f : Record.Fails e r u) (h : r.cause ≠ none) : u.CauseOk := by
  cases f with
  | requeued c =>
    rw [Record.requeued_eq]
    cases e.up _ <;> simp [Record.CauseOk]
  | _ => simp [Record.CauseOk, Record.returned, Record.heldOver, Record.enter_eq, Record.dropAgreed_eq, h]

theorem Record.Move.causeOk {e : Env} {r u : Record} (h : r.CauseOk) (m : Record.Move True e r u) : u.CauseOk := by
  have some' : r.state ≠ .agreed → r.state ≠ .holdover → r.state ≠ .retiring → r.cause ≠ none :=
    fun a b c n => by simpa [a, b, c] using h.1 n
  have requeue : ∀ c x, (Record.requeued e c x).CauseOk := by
    intro c x
    rw [Record.requeued_eq]
    cases e.up x.line <;> simp [Record.CauseOk]
  cases m with
  | fail _ state f => exact f.causeOk (some' (by simp [state]) (by simp [state]) (by simp [state]))
  | failMasked m _ state f =>
    exact f.causeOk (by simpa [Record.takeMask_eq] using some' (by simp [state]) (by simp [state]) (by simp [state]))
  | requeue c | holdoverEnds c | remote c => exact requeue c _
  | lineLeftUp s =>
    obtain ⟨n, e⟩ | ⟨n, e⟩ | ⟨n, e⟩ | ⟨n, e⟩ | ⟨-, e⟩ := Record.lineLeftUp_cases s r
    case inr.inr.inr.inr => rw [e]; exact h
    all_goals
      rw [e]
      simp_all [Record.CauseOk, Record.heldOver, Record.enter_eq, Record.dropAgreed_eq]
  | sample v =>
    obtain ⟨_, _, _, _, _, h'⟩ := Record.sample_frame (e.profileOf r.profile) e.ladders[(e.profileOf r.profile).ladder] v r
    rw [h']
    exact h
  | override | bind | acknowledge | retry | hold | release | rerun | carrier => exact h
  | start waiting =>
    have n := waiting trivial
    simpa [Record.CauseOk, Record.enter_eq] using some' (by simp [n]) (by simp [n]) (by simp [n])
  | mask | order => simpa [Record.CauseOk, Record.takeMask_eq] using h
  | classMove | carrierLost | carrierBack | retire =>
    simp_all [Record.CauseOk, Record.heldOver, Record.enter_eq, Record.dropAgreed_eq]

/-! ### The line of a record (R81, R100, R117) -/

/-- The state of a record fits its line. -/
abbrev Record.Fits (e : Env) (r : Record) : Prop :=
  (r.state = .waiting ∨ r.state = .negotiating ∨ r.state = .backoff → e.up r.line = true) ∧
  (r.state = .parked → e.up r.line = false)

theorem Record.fits_requeued (e : Env) (c : Cause) (r : Record) : (Record.requeued e c r).Fits e := by
  rw [Record.requeued_eq]
  cases h : e.up r.line <;> simp [Record.Fits, h]

theorem Record.Fails.fits {e : Env} {r u : Record} (f : Record.Fails e r u) (h : e.up r.line = true) : u.Fits e := by
  cases f with
  | requeued c => exact Record.fits_requeued e c _
  | _ => simp [Record.Fits, Record.returned, Record.heldOver, Record.enter_eq, Record.dropAgreed_eq, h]

theorem Record.Move.fits {e : Env} {r u : Record} (h : r.Fits e) (m : Record.Move True e r u) : u.Fits e := by
  obtain ⟨up, parked⟩ := h
  cases m with
  | fail _ state f => exact f.fits (up (.inr (.inl state)))
  | failMasked m _ state f => exact f.fits (by simpa [Record.takeMask_eq] using up (.inr (.inl state)))
  | requeue c | holdoverEnds c | remote c => exact Record.fits_requeued e c _
  | lineLeftUp s _ down =>
    obtain ⟨n, e⟩ | ⟨n, e⟩ | ⟨n, e⟩ | ⟨n, e⟩ | ⟨-, e⟩ := Record.lineLeftUp_cases s r
    case inr.inr.inr.inr => rw [e]; exact ⟨up, parked⟩
    all_goals simp_all [Record.Fits, Record.heldOver, Record.enter_eq]
  | sample v =>
    obtain ⟨_, _, _, _, _, h⟩ := Record.sample_frame (e.profileOf r.profile) e.ladders[(e.profileOf r.profile).ladder] v r
    rw [h]
    exact ⟨up, parked⟩
  | override | bind | acknowledge | retry | hold | release | rerun | carrier | classMove => exact ⟨up, parked⟩
  | start waiting => exact ⟨fun _ => up (.inl (waiting trivial)), nofun⟩
  | mask | order => simpa [Record.Fits, Record.takeMask_eq] using And.intro up parked
  | carrierLost | carrierBack | retire =>
    simp_all [Record.Fits, Record.heldOver, Record.enter_eq]

/-! ### Timers (R9, R10) -/

/-- A timer started now is in time. -/
theorem Timer.inTime_start (now : Nat) (t : Timer) (h : t.start = now) : t.InTime now := by
  constructor
  · omega
  · simp only [Timer.latest, Timer.deadline]; omega

/-- A running timer of the record is in time. -/
abbrev Record.InTime (now : Nat) (r : Record) : Prop := ∀ t ∈ r.timer, t.InTime now

theorem Record.inTime_stopped {now : Nat} {r : Record} (h : r.timer = none) : r.InTime now := by
  simp [Record.InTime, h]

theorem Record.inTime_started {now : Nat} {r : Record} {t : Timer} (h : r.timer = some t) (start : t.start = now) :
    r.InTime now := by
  intro x hx
  rw [h] at hx
  cases hx
  exact Timer.inTime_start now t start

theorem Record.inTime_requeued (e : Env) (c : Cause) (r : Record) (now : Nat) : (Record.requeued e c r).InTime now :=
  Record.inTime_stopped (by simp [Record.requeued_eq])

theorem Record.Fails.inTime {e : Env} {r u : Record} (f : Record.Fails e r u) : u.InTime e.now := by
  cases f with
  | requeued c => exact Record.inTime_requeued e c _ _
  | backoff | noCarrier | passed => exact Record.inTime_started rfl rfl
  | returned => exact Record.inTime_stopped rfl
  | failed => exact Record.inTime_stopped (by simp [Record.enter_eq, Record.dropAgreed_eq])

theorem Record.Move.inTime {g : Prop} {e : Env} {r u : Record} (h : r.InTime e.now) (m : Record.Move g e r u) :
    u.InTime e.now := by
  cases m with
  | fail _ _ f | failMasked _ _ _ f => exact f.inTime
  | requeue c | holdoverEnds c | remote c => exact Record.inTime_requeued e c _ _
  | lineLeftUp s env =>
    obtain ⟨n, e⟩ | ⟨n, e⟩ | ⟨n, e⟩ | ⟨n, e⟩ | ⟨-, e⟩ := Record.lineLeftUp_cases s r
    · exact e ▸ Record.inTime_stopped (by simp [Record.enter_eq, Record.dropAgreed_eq])
    · rw [e]; simpa [Record.InTime, Record.enter_eq, Record.dropAgreed_eq] using h
    · exact e ▸ Record.inTime_stopped rfl
    · exact e ▸ Record.inTime_started rfl (congrArg Env.now env)
    · rw [e]; exact h
  | sample v =>
    obtain ⟨_, _, _, _, _, h'⟩ := Record.sample_frame (e.profileOf r.profile) e.ladders[(e.profileOf r.profile).ladder] v r
    rw [h']
    exact h
  | override | bind | acknowledge | retry | hold | release | rerun | carrier | classMove => exact h
  | mask => simpa [Record.InTime, Record.takeMask_eq] using h
  | order | start | carrierLost => exact Record.inTime_started rfl rfl
  | carrierBack => exact Record.inTime_stopped rfl
  | retire _ tm start => exact fun t ht => Timer.inTime_start _ t (start t ht)

/-! ### Change sets (R21, section 10.1) -/

/-- The record does not hold RETIRED. -/
abbrev Record.NotRetired (r : Record) : Prop := r.changes.getLsbD 4 = false

theorem recorded_bit4 {c k : BitVec 5} {p : Profile} (hc : c.getLsbD 4 = false) (hk : k.getLsbD 4 = false) :
    (recorded c k p).getLsbD 4 = false := by
  simp only [recorded, BitVec.getLsbD_or, BitVec.getLsbD_and, hc, hk, Bool.false_and, Bool.or_false]

theorem Record.notRetired_enter {p : Profile} {st : RecState} {r : Record} (h : r.NotRetired) :
    (Record.enter p st r).NotRetired := recorded_bit4 h (by decide)

theorem Record.notRetired_dropAgreed {p : Profile} {r : Record} (h : r.NotRetired) : (Record.dropAgreed p r).NotRetired := by
  rw [Record.dropAgreed_eq]
  exact recorded_bit4 h (by split <;> decide)

theorem Record.notRetired_takeMask {p : Profile} {m : StepSet} {r : Record} (h : r.NotRetired) :
    (Record.takeMask p m r).NotRetired := by
  rw [Record.takeMask_eq]
  exact recorded_bit4 h (by split <;> split <;> decide)

theorem Record.notRetired_requeued {e : Env} {c : Cause} {r : Record} (h : r.NotRetired) :
    (Record.requeued e c r).NotRetired := by
  unfold Record.requeued
  split
  · exact Record.notRetired_enter h
  · exact Record.notRetired_enter (Record.notRetired_dropAgreed h)

theorem Record.notRetired_sample {p : Profile} {l : Ladder} {v : BitVec 8} {r : Record} (h : r.NotRetired) :
    (Record.sample p l v r).NotRetired := by
  unfold Record.sample
  split
  · exact recorded_bit4 h (by decide)
  · unfold Record.laterSample
    extract_lets rise fall raised lowered ceiling r1
    split
    · exact h
    · exact recorded_bit4 (c := r1.changes) h (by decide)

theorem Record.Fails.notRetired {e : Env} {r u : Record} (f : Record.Fails e r u) (h : r.NotRetired) : u.NotRetired := by
  have returned : (Record.returned e r).NotRetired := Record.notRetired_enter (r := { r with
    attempt := none, timer := none, cause := none, forwardBlocked := true }) h
  have dropped : (Record.dropAgreed (e.profileOf r.profile) { r with attempt := none, timer := none }).NotRetired :=
    Record.notRetired_dropAgreed (r := { r with attempt := none, timer := none }) h
  cases f with
  | backoff | failed => exact recorded_bit4 dropped (by decide)
  | requeued c => exact Record.notRetired_requeued returned
  | noCarrier => exact recorded_bit4 h (by decide)
  | returned => exact returned
  | passed => exact recorded_bit4 returned (by decide)

theorem Record.Move.notRetired {g : Prop} {e : Env} {r u : Record} (h : r.NotRetired) (m : Record.Move g e r u) :
    u.NotRetired := by
  cases m with
  | fail _ _ f => exact f.notRetired h
  | failMasked _ _ _ f => exact f.notRetired (Record.notRetired_takeMask h)
  | requeue c => exact Record.notRetired_requeued h
  | holdoverEnds c => exact Record.notRetired_requeued (Record.notRetired_dropAgreed h)
  | remote c => exact Record.notRetired_requeued (Record.notRetired_takeMask h)
  | lineLeftUp s env =>
    obtain ⟨n, e⟩ | ⟨n, e⟩ | ⟨n, e⟩ | ⟨n, e⟩ | ⟨-, e⟩ := Record.lineLeftUp_cases s r
    · rw [e]
      exact Record.notRetired_enter (Record.notRetired_dropAgreed (r := { r with attempt := none, timer := none }) h)
    · exact e ▸ Record.notRetired_enter (Record.notRetired_dropAgreed h)
    · exact e ▸ Record.notRetired_enter (r := { r with timer := none }) h
    · exact e ▸ recorded_bit4 h (by decide)
    · rw [e]; exact h
  | sample v => exact Record.notRetired_sample h
  | acknowledge kinds => simp only [Record.NotRetired, BitVec.getLsbD_and, Record.NotRetired.eq_1 r ▸ h, Bool.false_and]
  | override | bind | retry | hold | release | rerun | carrier | classMove => exact h
  | mask | order => exact Record.notRetired_takeMask (r := r) h
  | start | carrierLost | carrierBack => exact recorded_bit4 h (by decide)
  | retire =>
    exact recorded_bit4 (Record.notRetired_dropAgreed
      (r := { r with attempt := none, timer := none, cause := none }) h) (by decide)

/-! ### Profiles (R5) -/

theorem Record.Fails.profile {e : Env} {r u : Record} (f : Record.Fails e r u) : u.profile = r.profile := by
  cases f <;> simp [Record.requeued_eq, Record.returned, Record.heldOver, Record.enter_eq, Record.dropAgreed_eq]

theorem Record.Move.bound {g : Prop} {e : Env} {r u : Record} (h : e.valid r.profile = true) (m : Record.Move g e r u) :
    e.valid u.profile = true := by
  cases m with
  | fail _ _ f => rwa [f.profile]
  | failMasked m _ _ f => rw [f.profile]; simpa [Record.takeMask_eq] using h
  | lineLeftUp s =>
    obtain ⟨-, e⟩ | ⟨-, e⟩ | ⟨-, e⟩ | ⟨-, e⟩ | ⟨-, e⟩ := Record.lineLeftUp_cases s r <;>
      simpa [e, Record.heldOver, Record.enter_eq, Record.dropAgreed_eq] using h
  | sample v =>
    obtain ⟨_, _, _, _, _, h'⟩ := Record.sample_frame (e.profileOf r.profile) e.ladders[(e.profileOf r.profile).ladder] v r
    rw [h']
    exact h
  | bind _ valid => exact valid
  | _ => simpa [Record.requeued_eq, Record.heldOver, Record.enter_eq, Record.dropAgreed_eq, Record.takeMask_eq] using h

/-! ### The generation (R20) -/

/-- The agreed step and the generation stay, or the step is lost and the generation steps. -/
def Record.KeepsStep (r u : Record) : Prop :=
  (u.agreed = r.agreed ∧ u.generation = r.generation) ∨
  (r.agreed ≠ none ∧ u.agreed = none ∧ u.generation = r.generation + 1)

theorem Record.KeepsStep.refl (r : Record) : r.KeepsStep r := .inl ⟨rfl, rfl⟩

theorem Record.KeepsStep.trans {r u v : Record} (a : r.KeepsStep u) (b : u.KeepsStep v) : r.KeepsStep v := by
  obtain ⟨ha, hg⟩ | ⟨ha, hn, hg⟩ := a
  · obtain ⟨hb, hh⟩ | ⟨hb, hm, hh⟩ := b
    · exact .inl ⟨hb.trans ha, hh.trans hg⟩
    · exact .inr ⟨ha ▸ hb, hm, by rw [hh, hg]⟩
  · obtain ⟨hb, hh⟩ | ⟨hb, -, -⟩ := b
    · exact .inr ⟨ha, hb.trans hn, hh.trans hg⟩
    · exact absurd hn hb

theorem Record.keepsStep_dropAgreed (p : Profile) (r : Record) : r.KeepsStep (Record.dropAgreed p r) := by
  rw [Record.dropAgreed_eq]
  cases h : r.agreed <;> simp [Record.KeepsStep, h]

theorem Record.keepsStep_takeMask (p : Profile) (m : StepSet) (r : Record) : r.KeepsStep (Record.takeMask p m r) := by
  rw [Record.takeMask_eq]
  cases h : r.agreed with
  | none => simp [Record.KeepsStep, h]
  | some k => cases hk : StepSet.has m k <;> simp [Record.KeepsStep, h, hk, Option.filter]

theorem Record.keepsStep_requeued (e : Env) (c : Cause) (r : Record) : r.KeepsStep (Record.requeued e c r) := by
  rw [Record.requeued_eq]
  cases e.up r.line
  · cases h : r.agreed <;> simp [Record.KeepsStep, h]
  · exact .inl ⟨rfl, rfl⟩

theorem Record.Fails.keepsStep {e : Env} {r u : Record} (f : Record.Fails e r u) : r.KeepsStep u := by
  cases f with
  | backoff | failed => exact Record.keepsStep_dropAgreed _ { r with attempt := none, timer := none }
  | requeued c => exact Record.KeepsStep.trans (u := Record.returned e r) (.inl ⟨rfl, rfl⟩) (Record.keepsStep_requeued e c _)
  | noCarrier | returned | passed => exact .inl ⟨rfl, rfl⟩

theorem Record.Move.keepsStep {g : Prop} {e : Env} {r u : Record} (m : Record.Move g e r u) : r.KeepsStep u := by
  cases m with
  | fail _ _ f => exact f.keepsStep
  | failMasked m _ _ f => exact (Record.keepsStep_takeMask _ m r).trans f.keepsStep
  | requeue c => exact Record.keepsStep_requeued e c r
  | holdoverEnds c => exact (Record.keepsStep_dropAgreed _ r).trans (Record.keepsStep_requeued e c _)
  | remote c m => exact (Record.keepsStep_takeMask _ m r).trans (Record.keepsStep_requeued e c _)
  | lineLeftUp s =>
    obtain ⟨-, e⟩ | ⟨-, e⟩ | ⟨-, e⟩ | ⟨-, e⟩ | ⟨-, e⟩ := Record.lineLeftUp_cases s r
    · exact e ▸ Record.keepsStep_dropAgreed _ { r with attempt := none, timer := none }
    · exact e ▸ Record.keepsStep_dropAgreed _ r
    all_goals rw [e]; exact .inl ⟨rfl, rfl⟩
  | sample v =>
    obtain ⟨_, _, _, _, _, h⟩ := Record.sample_frame (e.profileOf r.profile) e.ladders[(e.profileOf r.profile).ladder] v r
    exact h ▸ .inl ⟨rfl, rfl⟩
  | mask m | order m => exact Record.keepsStep_takeMask _ m r
  | retire => exact Record.keepsStep_dropAgreed _ { r with attempt := none, timer := none, cause := none }
  | _ => exact .inl ⟨rfl, rfl⟩

theorem Record.Moves.keepsStep {g : Prop} {e : Env} {r u : Record} (m : Record.Moves g e r u) : r.KeepsStep u :=
  Record.Moves.keep (P := fun x => r.KeepsStep x) (fun _ _ a b => a.trans b.keepsStep) m (.refl r)

/-! ### Success and creation (R17, R18, R95) -/

/-- The record an attempt that succeeds leaves, field by field. -/
theorem Record.succeeded_eq (e : Env) (k : Step) (r : Record) : Record.succeeded e k r = { r with
    state := .agreed, attempt := none, cause := none, timer := none, attempts := 0, carrier := .up
    forwardBlocked := false, agreed := some k
    generation := if r.agreed = some k then r.generation else r.generation + 1
    changes := recorded r.changes ((if r.agreed = some k then 0 else kindRate) ||| kindState) (e.profileOf r.profile) } := by
  simp only [Record.succeeded, Record.enter_eq, Record.takeAgreed_eq, recorded_recorded]

/-- An ordered step is confirmed (R91). -/
structure Record.Confirms (k : Step) (r : Record) : Prop where
  state : r.state = .negotiating
  ordered : r.orderedStep = some k

theorem Record.fieldsOk_succeeded {e : Env} {k : Step} {r : Record} (h : r.FieldsOk) : (Record.succeeded e k r).FieldsOk := by
  simp [Record.FieldsOk, Record.AttemptOk, Record.AgreedOk, Record.TimerOk, Record.HoldsOk, Record.succeeded_eq, h.2.2.2.1]

theorem Record.masksOk_succeeded {e : Env} {k : Step} {r : Record} (c : r.Confirms k) (h : r.MasksOk) :
    (Record.succeeded e k r).MasksOk := by
  refine Record.masksOk_idle (by simp [Record.succeeded_eq]) (by simp [Record.succeeded_eq]) fun j hj => ?_
  have hj : k = j := by simpa [Record.succeeded_eq] using hj
  subst hj
  simpa [Record.succeeded_eq] using (h.2.2 k c.ordered).2

theorem Record.carriersOk_succeeded (e : Env) (k : Step) (r : Record) : (Record.succeeded e k r).CarriersOk := by
  simp [Record.CarriersOk, Record.CarrierOk, Record.succeeded_eq]

theorem Record.countsOk_succeeded {e : Env} {k : Step} {r : Record} (h : r.CountsOk) : (Record.succeeded e k r).CountsOk := by
  simpa [Record.CountsOk, Record.QualityCountsOk, Record.AttemptsOk, Record.succeeded_eq] using h.1

theorem Record.causeOk_succeeded (e : Env) (k : Step) (r : Record) : (Record.succeeded e k r).CauseOk := by
  simp [Record.CauseOk, Record.succeeded_eq]

theorem Record.fits_succeeded (e e' : Env) (k : Step) (r : Record) : (Record.succeeded e k r).Fits e' := by
  simp [Record.Fits, Record.succeeded_eq]

theorem Record.inTime_succeeded (e : Env) (k : Step) (r : Record) (now : Nat) : (Record.succeeded e k r).InTime now :=
  Record.inTime_stopped (by simp [Record.succeeded_eq])

theorem Record.notRetired_succeeded {e : Env} {k : Step} {r : Record} (h : r.NotRetired) :
    (Record.succeeded e k r).NotRetired := by
  rw [Record.succeeded_eq]
  exact recorded_bit4 h (by split <;> decide)

theorem Record.profile_succeeded (e : Env) (k : Step) (r : Record) : (Record.succeeded e k r).profile = r.profile := by
  simp [Record.succeeded_eq]

/-- A record as the table creates it. Where `b` holds, as every line names a VALID profile, so does the record (R5). -/
inductive Record.Created (b : Prop) (e : Env) (l : LineId) (st : Station) : Record → Prop
  | mk (p : Fin 16) (valid : b → e.valid p = true) (mask : Option StepSet) (c : Cause) (kinds : BitVec 5)
    (kind : kinds.getLsbD 4 = false) :
    Record.Created b e l st (createdRecord l st p mask (if e.up l then .waiting else .parked) c
      (recorded 0 kinds (e.profileOf p)))

section
variable {b : Prop} {e : Env} {l : LineId} {st : Station} {r : Record}

theorem Record.Created.fieldsOk (c : Record.Created b e l st r) : r.FieldsOk := by
  cases c
  cases h : e.up l <;>
    simp [Record.FieldsOk, Record.AttemptOk, Record.AgreedOk, Record.TimerOk, Record.HoldsOk, createdRecord]

theorem Record.Created.masksOk (c : Record.Created b e l st r) : r.MasksOk := by
  cases c
  exact Record.masksOk_idle rfl (by cases h : e.up l <;> simp [createdRecord]) nofun

theorem Record.Created.carriersOk (c : Record.Created b e l st r) : r.CarriersOk := by
  cases c
  cases h : e.up l <;> simp [Record.CarriersOk, Record.CarrierOk, createdRecord]

theorem Record.Created.countsOk (c : Record.Created b e l st r) : r.CountsOk := by
  cases c
  simp [Record.CountsOk, Record.QualityCountsOk, Record.AttemptsOk, createdRecord]

theorem Record.Created.causeOk (c : Record.Created b e l st r) : r.CauseOk := by
  cases c
  cases h : e.up l <;> simp [Record.CauseOk, createdRecord]

theorem Record.Created.fits (c : Record.Created b e l st r) : r.Fits e := by
  cases c
  cases h : e.up l <;> simp [Record.Fits, createdRecord, h]

theorem Record.Created.inTime (c : Record.Created b e l st r) : r.InTime e.now := by
  cases c
  exact Record.inTime_stopped rfl

theorem Record.Created.notRetired (c : Record.Created b e l st r) : r.NotRetired := by
  cases c with
  | mk p valid mask c kinds kind => exact recorded_bit4 (c := 0) (by decide) kind

theorem Record.Created.bound (c : Record.Created b e l st r) (h : b) : e.valid r.profile = true := by
  cases c with
  | mk p valid => exact valid h

theorem Record.Created.key (c : Record.Created b e l st r) : r.line = l ∧ r.station = st := by
  cases c
  exact ⟨rfl, rfl⟩

end

end Sys2Proof.Machine
end


section
/-! The grant and the wait queue of a line against its records: who sits where, and what a change of one seat keeps (R81 to R84). -/

namespace Sys2Proof.Machine

/-! ### Seats -/

/-- Where a record stands on the arbiter of its line: it holds the grant, waits in a class, or neither. -/
inductive Seat where
  | away
  | grant
  | urgent
  | normal
deriving DecidableEq

/-- The seat that a record's state and cause give it (R81, R82, Table 6-1). -/
def Record.seat (r : Record) : Seat := match r.state with
  | .negotiating => .grant
  | .waiting => if r.cause.any Cause.isUrgent then .urgent else .normal
  | _ => .away

/-- The class of a cause, as a seat. -/
def Cause.seat (c : Cause) : Seat := if c.isUrgent then .urgent else .normal

theorem Record.seat_grant {r : Record} : r.seat = .grant ↔ r.state = .negotiating := by
  unfold Record.seat
  cases h : r.state <;> simp
  split <;> simp

theorem Record.seat_urgent {r : Record} :
    r.seat = .urgent ↔ r.state = .waiting ∧ r.cause.any Cause.isUrgent = true := by
  unfold Record.seat
  cases h : r.state <;> simp

theorem Record.seat_normal {r : Record} :
    r.seat = .normal ↔ r.state = .waiting ∧ r.cause.any Cause.isUrgent = false := by
  unfold Record.seat
  cases h : r.state <;> simp

theorem Record.seat_away {r : Record} : r.seat = .away ↔ r.state ≠ .negotiating ∧ r.state ≠ .waiting := by
  unfold Record.seat
  cases h : r.state <;> simp
  split <;> simp

/-- A seat is decided by state and cause. -/
theorem Record.seat_congr {r u : Record} (state : u.state = r.state) (cause : u.cause = r.cause) : u.seat = r.seat := by
  simp only [Record.seat, state, cause]

theorem Record.seat_of_waiting {r : Record} {c : Cause} (state : r.state = .waiting) (cause : r.cause = some c) :
    r.seat = c.seat := by
  simp only [Record.seat, Cause.seat, state, cause, Option.any_some]

theorem Cause.seat_cases (c : Cause) : (c.isUrgent = true ∧ c.seat = .urgent) ∨ (c.isUrgent = false ∧ c.seat = .normal) := by
  unfold Cause.seat
  cases c.isUrgent <;> simp

/-- An arbiter seats a handle of its line where the record there has its seat, and nowhere else. -/
structure Arbiter.Seats (a : Arbiter) (l : LineId) (h : Handle) (o : Option Record) : Prop where
  grant : a.grant = some h ↔ ∃ r ∈ o, r.line = l ∧ r.seat = .grant
  urgent : h ∈ a.urgent ↔ ∃ r ∈ o, r.line = l ∧ r.seat = .urgent
  normal : h ∈ a.normal ↔ ∃ r ∈ o, r.line = l ∧ r.seat = .normal

/-- The grants and the wait queues are what the table says; that a free grant has nobody waiting is not asked (R81, R82). -/
structure State.QueuesOk (s : State) : Prop where
  nodup : ∀ l : LineId, (s.arbiters[l].urgent ++ s.arbiters[l].normal).Nodup
  seats : ∀ (l : LineId) (h : Handle), s.arbiters[l].Seats l h (s.record? h)

/-- Nobody waits for a free grant (R83). -/
def Arbiter.Busy (a : Arbiter) : Prop := a.grant = none → a.urgent ++ a.normal = []

theorem State.arbitersOk_iff {s : State} : s.ArbitersOk ↔ s.QueuesOk ∧ ∀ l : LineId, s.arbiters[l].Busy := by
  constructor
  · intro ok
    refine ⟨⟨fun l => (ok l).2.2.1, fun l h => ?_⟩, fun l => (ok l).2.2.2.2.2⟩
    obtain ⟨grant, waits, -, urgent, normal, -⟩ := ok l
    refine ⟨?_, ⟨fun hm => ?_, ?_⟩, ⟨fun hm => ?_, ?_⟩⟩
    · simpa only [Record.seat_grant] using grant h
    · obtain ⟨r, hr, hl, hw⟩ := (waits h).1 (List.mem_append_left _ hm)
      exact ⟨r, hr, hl, Record.seat_urgent.2 ⟨hw, urgent h r hr hm⟩⟩
    · rintro ⟨r, hr, hl, hs⟩
      obtain ⟨hw, hu⟩ := Record.seat_urgent.1 hs
      refine (List.mem_append.1 ((waits h).2 ⟨r, hr, hl, hw⟩)).resolve_right fun hm => ?_
      rw [normal h r hr hm] at hu
      cases hu
    · obtain ⟨r, hr, hl, hw⟩ := (waits h).1 (List.mem_append_right _ hm)
      exact ⟨r, hr, hl, Record.seat_normal.2 ⟨hw, normal h r hr hm⟩⟩
    · rintro ⟨r, hr, hl, hs⟩
      obtain ⟨hw, hu⟩ := Record.seat_normal.1 hs
      refine (List.mem_append.1 ((waits h).2 ⟨r, hr, hl, hw⟩)).resolve_left fun hm => ?_
      rw [urgent h r hr hm] at hu
      cases hu
  · rintro ⟨q, busy⟩ l
    refine ⟨fun h => ?_, fun h => ?_, q.nodup l, fun h r hr hm => ?_, fun h r hr hm => ?_, busy l⟩
    · simpa only [Record.seat_grant] using (q.seats l h).grant
    · rw [List.mem_append, (q.seats l h).urgent, (q.seats l h).normal]
      constructor
      · rintro (⟨r, hr, hl, hs⟩ | ⟨r, hr, hl, hs⟩)
        · exact ⟨r, hr, hl, (Record.seat_urgent.1 hs).1⟩
        · exact ⟨r, hr, hl, (Record.seat_normal.1 hs).1⟩
      · rintro ⟨r, hr, hl, hw⟩
        cases hc : r.cause.any Cause.isUrgent with
        | true => exact .inl ⟨r, hr, hl, Record.seat_urgent.2 ⟨hw, hc⟩⟩
        | false => exact .inr ⟨r, hr, hl, Record.seat_normal.2 ⟨hw, hc⟩⟩
    · obtain ⟨u, hu, -, hs⟩ := (q.seats l h).urgent.1 hm
      cases hr.symm.trans hu
      exact (Record.seat_urgent.1 hs).2
    · obtain ⟨u, hu, -, hs⟩ := (q.seats l h).normal.1 hm
      cases hr.symm.trans hu
      exact (Record.seat_normal.1 hs).2

/-! ### One handle takes another seat -/

/-- Two arbiters seat a handle alike. -/
structure Arbiter.SameFor (a b : Arbiter) (k : Handle) : Prop where
  grant : b.grant = some k ↔ a.grant = some k
  urgent : k ∈ b.urgent ↔ k ∈ a.urgent
  normal : k ∈ b.normal ↔ k ∈ a.normal

theorem Arbiter.SameFor.refl (a : Arbiter) (k : Handle) : a.SameFor a k := ⟨.rfl, .rfl, .rfl⟩

theorem Arbiter.SameFor.seats {a b : Arbiter} {k : Handle} {l : LineId} {o : Option Record} (h : a.SameFor b k)
    (q : a.Seats l k o) : b.Seats l k o :=
  ⟨h.grant.trans q.grant, h.urgent.trans q.urgent, h.normal.trans q.normal⟩

/-- A handle whose record stands on another line, or which has none, is not seated. -/
theorem Arbiter.Seats.other {a : Arbiter} {l : LineId} {h : Handle} {o p : Option Record} (q : a.Seats l h o)
    (ho : ∀ r ∈ o, r.line ≠ l) (hp : ∀ r ∈ p, r.line ≠ l) : a.Seats l h p := by
  refine ⟨q.grant.trans ?_, q.urgent.trans ?_, q.normal.trans ?_⟩ <;>
    exact ⟨fun ⟨r, hr, hl, _⟩ => absurd hl (ho r hr), fun ⟨r, hr, hl, _⟩ => absurd hl (hp r hr)⟩

/-- The change of one record of a line and of that line's arbiter keeps every seat, when the arbiter seats the new record
and leaves the others as they were. -/
theorem State.QueuesOk.reseat {s t : State} {l : LineId} {h : Handle} (q : s.QueuesOk)
    (old : ∀ r ∈ s.record? h, r.line = l) (new : ∀ r ∈ t.record? h, r.line = l)
    (records : ∀ k, k ≠ h → t.record? k = s.record? k) (arbiters : ∀ k, k ≠ l → t.arbiters[k] = s.arbiters[k])
    (nodup : (t.arbiters[l].urgent ++ t.arbiters[l].normal).Nodup)
    (others : ∀ k, k ≠ h → s.arbiters[l].SameFor t.arbiters[l] k)
    (own : t.arbiters[l].Seats l h (t.record? h)) : t.QueuesOk := by
  refine ⟨fun k => ?_, fun k j => ?_⟩
  · by_cases hk : k = l
    · exact hk ▸ nodup
    · rw [arbiters k hk]; exact q.nodup k
  · by_cases hk : k = l
    · subst hk
      by_cases hj : j = h
      · exact hj ▸ own
      · rw [records j hj]; exact (others j hj).seats (q.seats k j)
    · rw [arbiters k hk]
      by_cases hj : j = h
      · subst hj
        exact (q.seats k j).other (fun r hr e => hk (e.symm.trans (old r hr))) fun r hr e => hk (e.symm.trans (new r hr))
      · rw [records j hj]; exact q.seats k j

theorem Arbiter.seats_some {a : Arbiter} {l : LineId} {h : Handle} {r : Record} (hl : r.line = l) :
    a.Seats l h (some r) ↔ (a.grant = some h ↔ r.seat = .grant) ∧ (h ∈ a.urgent ↔ r.seat = .urgent) ∧
      (h ∈ a.normal ↔ r.seat = .normal) := by
  constructor
  · rintro ⟨a, b, c⟩
    exact ⟨by simpa [hl] using a, by simpa [hl] using b, by simpa [hl] using c⟩
  · rintro ⟨a, b, c⟩
    exact ⟨by simpa [hl] using a, by simpa [hl] using b, by simpa [hl] using c⟩

/-- A handle that is nowhere seated has no record, or one that asks for no seat. -/
theorem Arbiter.seats_away {a : Arbiter} {l : LineId} {h : Handle} {o : Option Record} (away : ∀ r ∈ o, r.seat = .away) :
    a.Seats l h o ↔ a.grant ≠ some h ∧ h ∉ a.urgent ∧ h ∉ a.normal := by
  have no : ∀ x, x ≠ Seat.away → ¬∃ r ∈ o, r.line = l ∧ r.seat = x := by
    rintro x hx ⟨r, hr, -, hs⟩
    exact hx (hs.symm.trans (away r hr))
  constructor
  · rintro ⟨a, b, c⟩
    exact ⟨mt a.1 (no _ nofun), mt b.1 (no _ nofun), mt c.1 (no _ nofun)⟩
  · rintro ⟨a, b, c⟩
    exact ⟨iff_of_false a (no _ nofun), iff_of_false b (no _ nofun), iff_of_false c (no _ nofun)⟩

section
variable {s t : State} {l : LineId} {h : Handle} (q : s.QueuesOk)
include q

/-- A record that keeps its seat. -/
theorem State.QueuesOk.keep {r u : Record} (hr : s.record? h = some r) (hu : t.record? h = some u)
    (line : u.line = r.line) (seat : u.seat = r.seat)
    (records : ∀ k, k ≠ h → t.record? k = s.record? k) (arbiters : t.arbiters = s.arbiters) : t.QueuesOk := by
  refine q.reseat (l := r.line) (h := h) (by simp [hr]) (by simp [hu, line]) records (fun k _ => by rw [arbiters])
    (by rw [arbiters]; exact q.nodup _) (fun k _ => by rw [arbiters]; exact .refl _ k) ?_
  have := q.seats r.line h
  rw [hr, Arbiter.seats_some rfl] at this
  rw [hu, Arbiter.seats_some line, arbiters, seat]
  exact this

/-- A record that waits for the first time joins the tail of its class (R82). -/
theorem State.QueuesOk.join {u : Record} {c : Cause} (old : ∀ r ∈ s.record? h, r.line = l ∧ r.seat = .away)
    (hu : t.record? h = some u) (line : u.line = l) (seat : u.seat = c.seat)
    (records : ∀ k, k ≠ h → t.record? k = s.record? k)
    (arbiters : t.arbiters = (s.modArbiter l (Arbiter.join h c)).arbiters) : t.QueuesOk := by
  have own := (Arbiter.seats_away fun r hr => (old r hr).2).1 (q.seats l h)
  obtain ⟨ng, nu, nn⟩ := own
  have nodup := q.nodup l
  have here : t.arbiters[l] = Arbiter.join h c s.arbiters[l] := by rw [arbiters, State.arbiter_modArbiter_same]
  have out : ∀ k, k ≠ l → t.arbiters[k] = s.arbiters[k] := fun k hk => by
    rw [arbiters, State.arbiter_modArbiter_other _ (Ne.symm hk)]
  refine q.reseat (l := l) (h := h) (fun r hr => (old r hr).1) (by simp [hu, line]) records out ?_ ?_ ?_
  · rw [here]
    obtain ⟨hc, -⟩ | ⟨hc, -⟩ := c.seat_cases <;> rw [Arbiter.join, hc]
    · rw [if_pos rfl]
      simp only [List.nodup_append, List.nodup_cons, List.mem_append, List.mem_singleton] at nodup ⊢
      refine ⟨⟨nodup.1, by simp, ?_⟩, nodup.2.1, ?_⟩
      · rintro a ha b rfl rfl; exact nu ha
      · rintro a (ha | rfl) b hb rfl
        · exact nodup.2.2 a ha a hb rfl
        · exact nn hb
    · rw [if_neg (by simp)]
      simp only [List.nodup_append, List.nodup_cons, List.mem_append, List.mem_singleton] at nodup ⊢
      refine ⟨nodup.1, ⟨nodup.2.1, by simp, ?_⟩, ?_⟩
      · rintro a ha b rfl rfl; exact nn ha
      · rintro a ha b (hb | rfl) rfl
        · exact nodup.2.2 a ha a hb rfl
        · exact nu ha
  · intro k hk
    rw [here]
    obtain ⟨hc, -⟩ | ⟨hc, -⟩ := c.seat_cases <;> rw [Arbiter.join, hc] <;> constructor <;> simp [-Fin.getElem_fin, hk]
  · rw [here, hu, Arbiter.seats_some line, seat]
    obtain ⟨hc, hs⟩ | ⟨hc, hs⟩ := c.seat_cases <;> rw [Arbiter.join, hc, hs] <;> simp [-Fin.getElem_fin, ng, nu, nn]

/-- The record with the grant gives it up (R97). -/
theorem State.QueuesOk.release {r : Record} (hr : s.record? h = some r) (grant : r.seat = .grant)
    (new : ∀ u ∈ t.record? h, u.line = r.line ∧ u.seat = .away) (records : ∀ k, k ≠ h → t.record? k = s.record? k)
    (arbiters : t.arbiters = (s.releaseGrant r.line).arbiters) : t.QueuesOk := by
  have own := q.seats r.line h
  rw [hr, Arbiter.seats_some rfl, grant] at own
  obtain ⟨hg, hu, hn⟩ := own
  have held := hg.2 rfl
  have here : t.arbiters[r.line] = { s.arbiters[r.line] with grant := none } := by
    rw [arbiters, State.releaseGrant, State.arbiter_modArbiter_same]
  refine q.reseat (l := r.line) (h := h) (by simp [hr]) (fun u hu => (new u hu).1) records
    (fun k hk => by rw [arbiters, State.releaseGrant, State.arbiter_modArbiter_other _ (Ne.symm hk)]) ?_ ?_ ?_
  · rw [here]; exact q.nodup _
  · intro k hk
    rw [here]
    exact ⟨by simp [-Fin.getElem_fin, held, Ne.symm hk], .rfl, .rfl⟩
  · rw [here, Arbiter.seats_away fun u hu => (new u hu).2]
    exact ⟨nofun, by simpa using hu, by simpa using hn⟩

/-- A WAITING record leaves the queue (R84). -/
theorem State.QueuesOk.leave {r : Record} (hr : s.record? h = some r) (waiting : r.state = .waiting)
    (new : ∀ u ∈ t.record? h, u.line = r.line ∧ u.seat = .away) (records : ∀ k, k ≠ h → t.record? k = s.record? k)
    (arbiters : t.arbiters = (s.modArbiter r.line (Arbiter.leave h)).arbiters) : t.QueuesOk := by
  have own := q.seats r.line h
  rw [hr, Arbiter.seats_some rfl] at own
  have here : t.arbiters[r.line] = Arbiter.leave h s.arbiters[r.line] := by rw [arbiters, State.arbiter_modArbiter_same]
  refine q.reseat (l := r.line) (h := h) (by simp [hr]) (fun u hu => (new u hu).1) records
    (fun k hk => by rw [arbiters, State.arbiter_modArbiter_other _ (Ne.symm hk)]) ?_ ?_ ?_
  · rw [here, Arbiter.leave, ← List.filter_append]
    exact (q.nodup _).filter _
  · intro k hk
    rw [here]
    exact ⟨.rfl, by simp [Arbiter.leave, hk], by simp [Arbiter.leave, hk]⟩
  · rw [here, Arbiter.seats_away fun u hu => (new u hu).2]
    refine ⟨fun g => ?_, by simp [Arbiter.leave], by simp [Arbiter.leave]⟩
    have := Record.seat_grant.1 (own.1.1 g)
    rw [waiting] at this
    cases this

/-- A WAITING record of the normal class moves to the tail of the urgent class (R84). -/
theorem State.QueuesOk.moveUrgent {r u : Record} (hr : s.record? h = some r) (normal : h ∈ s.arbiters[r.line].normal)
    (hu : t.record? h = some u) (line : u.line = r.line) (seat : u.seat = .urgent)
    (records : ∀ k, k ≠ h → t.record? k = s.record? k)
    (arbiters : t.arbiters = (s.modArbiter r.line (Arbiter.moveUrgent h)).arbiters) : t.QueuesOk := by
  have own := q.seats r.line h
  rw [hr, Arbiter.seats_some rfl] at own
  have hs := own.2.2.1 normal
  simp only [hs, normal, reduceCtorEq, iff_false] at own
  obtain ⟨ng, nu, -⟩ := own
  have nodup := q.nodup r.line
  have here : t.arbiters[r.line] = Arbiter.moveUrgent h s.arbiters[r.line] := by
    rw [arbiters, State.arbiter_modArbiter_same]
  refine q.reseat (l := r.line) (h := h) (by simp [hr]) (by simp [hu, line]) records
    (fun k hk => by rw [arbiters, State.arbiter_modArbiter_other _ (Ne.symm hk)]) ?_ ?_ ?_
  · rw [here, Arbiter.moveUrgent]
    simp only [List.nodup_append] at nodup ⊢
    refine ⟨⟨nodup.1, by simp, ?_⟩, nodup.2.1.filter _, ?_⟩
    · rintro a ha b hb rfl; exact nu (List.mem_singleton.1 hb ▸ ha)
    · rintro a ha b hb rfl
      obtain ⟨hb, hne⟩ := List.mem_filter.1 hb
      rcases List.mem_append.1 ha with ha | ha
      · exact nodup.2.2 a ha a hb rfl
      · simp [List.mem_singleton.1 ha] at hne
  · intro k hk
    rw [here]
    exact ⟨.rfl, by simp [Arbiter.moveUrgent, hk], by simp [Arbiter.moveUrgent, hk]⟩
  · rw [here, hu, Arbiter.seats_some line, seat]
    simp [-Fin.getElem_fin, Arbiter.moveUrgent, ng]

/-- The record next in turn takes the free grant (R83). -/
theorem State.QueuesOk.giveGrant {r u : Record} (free : s.arbiters[l].grant = none) (next : s.arbiters[l].next? = some h)
    (hr : s.record? h = some r) (line : r.line = l) (hu : t.record? h = some u) (line' : u.line = l)
    (seat : u.seat = .grant) (records : ∀ k, k ≠ h → t.record? k = s.record? k)
    (arbiters : t.arbiters = (s.modArbiter l Arbiter.giveGrant).arbiters) : t.QueuesOk := by
  subst line
  have nodup := q.nodup r.line
  have here : t.arbiters[r.line] = Arbiter.giveGrant s.arbiters[r.line] := by rw [arbiters, State.arbiter_modArbiter_same]
  have out : ∀ k, k ≠ r.line → t.arbiters[k] = s.arbiters[k] := fun k hk => by
    rw [arbiters, State.arbiter_modArbiter_other _ (Ne.symm hk)]
  unfold Arbiter.next? at next
  unfold Arbiter.giveGrant at here
  cases urgent : s.arbiters[r.line].urgent with
  | cons a rest =>
    rw [urgent] at next here nodup
    cases next
    dsimp only at here
    obtain ⟨na, nodup⟩ := List.nodup_cons.1 (List.cons_append ▸ nodup)
    refine q.reseat (l := r.line) (h := h) (by simp [hr]) (by simp [hu, line']) records out ?_ ?_ ?_
    · rw [here]; exact nodup
    · intro k hk
      rw [here]
      exact ⟨by simp [-Fin.getElem_fin, free, Ne.symm hk], by simp [-Fin.getElem_fin, urgent, hk], .rfl⟩
    · rw [here, hu, Arbiter.seats_some line', seat]
      rw [List.mem_append, not_or] at na
      simp [-Fin.getElem_fin, na]
  | nil =>
    rw [urgent] at next here nodup
    dsimp only at here next
    obtain ⟨rest, normal⟩ := List.head?_eq_some_iff.1 next
    rw [normal] at here nodup
    obtain ⟨na, nodup⟩ := List.nodup_cons.1 (List.nil_append _ ▸ nodup)
    refine q.reseat (l := r.line) (h := h) (by simp [hr]) (by simp [hu, line']) records out ?_ ?_ ?_
    · rw [here]; simpa [urgent] using nodup
    · intro k hk
      rw [here]
      exact ⟨by simp [-Fin.getElem_fin, free, Ne.symm hk], by rw [urgent], by simp [-Fin.getElem_fin, normal, hk]⟩
    · rw [here, hu, Arbiter.seats_some line', seat]
      simp [na]

/-- The record next in turn is WAITING on the line. -/
theorem State.QueuesOk.next_waits (next : s.arbiters[l].next? = some h) :
    ∃ r, s.record? h = some r ∧ r.line = l ∧ r.state = .waiting := by
  unfold Arbiter.next? at next
  cases urgent : s.arbiters[l].urgent with
  | cons a rest =>
    rw [urgent] at next
    cases next
    obtain ⟨r, hr, hl, hs⟩ := (q.seats l h).urgent.1 (by rw [urgent]; exact List.mem_cons_self)
    exact ⟨r, hr, hl, (Record.seat_urgent.1 hs).1⟩
  | nil =>
    rw [urgent] at next
    obtain ⟨r, hr, hl, hs⟩ := (q.seats l h).normal.1 (List.mem_of_mem_head? next)
    exact ⟨r, hr, hl, (Record.seat_normal.1 hs).1⟩

end

end Sys2Proof.Machine
end


section
/-! The operations on the table move records, lines and seats together: every operation of a line's records is a chain of record
moves, hands frames down, and keeps the seats (R81 to R100). -/

namespace Sys2Proof.Machine

/-! ### Moves of a line -/

/-- What an event can do to a line record with its lanes (R60 to R78). -/
inductive Line.Move (e : Env) (x : Line) : Line → Prop
  | send (f : DownFrame) (room : x.txQueue.length < Config.txQueueDepth) :
    Line.Move e x { x with txQueue := x.txQueue ++ [f] }
  | note (k : BitVec 5) : Line.Move e x (Line.note k x)
  | frame (st : LineState) (known : st = .down ∨ st = .up) :
    Line.Move e x (Line.restartSilence e.now { Line.enter st x with badRun := 0 })
  | ceiling (k : Step) : Line.Move e x (Line.takeCeiling k x)
  | run (n : Nat) (bound : n ≤ Config.badRunLimit) : Line.Move e x { x with badRun := n }
  | lose : Line.Move e x (Line.lose x)
  | config (quota : Nat) (mode : AdmissionMode) (p : Fin 16) (keepalive : Nat) (most : quota ≤ 64) (valid : e.valid p = true)
    (least : 1 ≤ keepalive) (longest : keepalive ≤ 255) : Line.Move e x
      { x with quota := quota, mode := mode, defaultProfile := p, keepalive := keepalive }
  | acknowledge (c : BitVec 5) : Line.Move e x { x with changes := c }
  | resetEngine : Line.Move e x (Line.resetEngine e.now x)
  | begin : Line.Move e x x.beginFrame
  | found : Line.Move e x { x with rxWaitsIdle := false }

/-- Any number of them. -/
abbrev Line.Moves (e : Env) : Line → Line → Prop := Relation.ReflTransGen (Line.Move e)

theorem Line.Moves.keep {e : Env} {P : Line → Prop} (hP : ∀ x y, P x → Line.Move e x y → P y) {x y : Line}
    (m : Line.Moves e x y) (h : P x) : P y := by
  induction m with
  | refl => exact h
  | tail _ b ih => exact hP _ _ ih b

/-! ### Moves of a slot and of the table -/

/-- The record of a live slot moves; any other slot stays. -/
def SlotBody.Moves (g : Prop) (e : Env) : SlotBody → SlotBody → Prop
  | .live r, b => ∃ u, b = .live u ∧ Record.Moves g e r u
  | a, b => b = a

theorem SlotBody.Moves.refl (g : Prop) (e : Env) (b : SlotBody) : SlotBody.Moves g e b b := by
  cases b with
  | live r => exact ⟨r, rfl, .refl⟩
  | free | vacated => rfl

theorem SlotBody.Moves.trans {g : Prop} {e : Env} {a b c : SlotBody} (x : SlotBody.Moves g e a b)
    (y : SlotBody.Moves g e b c) : SlotBody.Moves g e a c := by
  cases a with
  | live r =>
    obtain ⟨u, rfl, m⟩ := x
    obtain ⟨v, rfl, n⟩ := y
    exact ⟨v, rfl, m.trans n⟩
  | free | vacated => cases x; exact y

/-- The records move by the record moves, the lines by the line moves, and of the arbiters that of line `l` alone, so that
every seat stays right where `g` holds; which lines are UP, the quotas, the stores and the time stay. -/
structure State.Moves (g : Prop) (l : LineId) (s t : State) : Prop where
  stores : t.profiles = s.profiles ∧ t.staging = s.staging ∧ t.ladders = s.ladders ∧ t.now = s.now
  up : ∀ k : LineId, t.lineIsUp k = s.lineIsUp k
  quota : ∀ k : LineId, t.lines[k].quota = s.lines[k].quota
  epoch : ∀ h : Handle, t.slots[h].epoch = s.slots[h].epoch
  body : ∀ h : Handle, SlotBody.Moves g s.env s.slots[h].body t.slots[h].body
  lines : ∀ k : LineId, Line.Moves s.env s.lines[k] t.lines[k]
  queues : g → s.QueuesOk → t.QueuesOk ∧ ∀ k : LineId, k ≠ l → t.arbiters[k] = s.arbiters[k]

theorem State.env_congr {s t : State} (profiles : t.profiles = s.profiles) (ladders : t.ladders = s.ladders)
    (now : t.now = s.now) (up : ∀ k, t.lineIsUp k = s.lineIsUp k) : t.env = s.env := by
  simp only [State.env, Env.mk.injEq]
  refine ⟨?_, ?_, ladders, now, funext up⟩ <;> funext p
  · simp only [State.profileOf, profiles]
  · simp only [State.isValid, profiles]

section
variable {g : Prop} {l : LineId} {s t u : State} {h : Handle} {r : Record}

theorem State.Moves.env (m : State.Moves g l s t) : t.env = s.env :=
  State.env_congr m.stores.1 m.stores.2.2.1 m.stores.2.2.2 m.up

theorem State.Moves.trans (a : State.Moves g l s t) (b : State.Moves g l t u) : State.Moves g l s u where
  stores := ⟨b.stores.1.trans a.stores.1, b.stores.2.1.trans a.stores.2.1, b.stores.2.2.1.trans a.stores.2.2.1,
    b.stores.2.2.2.trans a.stores.2.2.2⟩
  up k := (b.up k).trans (a.up k)
  quota k := (b.quota k).trans (a.quota k)
  epoch h := (b.epoch h).trans (a.epoch h)
  body h := (a.body h).trans (a.env ▸ b.body h)
  lines k := (a.lines k).trans (a.env ▸ b.lines k)
  queues hg q := by
    obtain ⟨q', out⟩ := a.queues hg q
    obtain ⟨q'', out'⟩ := b.queues hg q'
    exact ⟨q'', fun k hk => (out' k hk).trans (out k hk)⟩

/-- A change of slots and arbiters alone. -/
theorem State.Moves.ofTable (o : t = { s with slots := t.slots, arbiters := t.arbiters })
    (epoch : ∀ h : Handle, t.slots[h].epoch = s.slots[h].epoch)
    (body : ∀ h : Handle, SlotBody.Moves g s.env s.slots[h].body t.slots[h].body)
    (queues : g → s.QueuesOk → t.QueuesOk ∧ ∀ k : LineId, k ≠ l → t.arbiters[k] = s.arbiters[k]) : State.Moves g l s t := by
  have lines : t.lines = s.lines := by rw [o]
  exact {
    stores := ⟨by rw [o], by rw [o], by rw [o], by rw [o]⟩
    up := fun k => by simp only [State.lineIsUp, lines]
    quota := fun k => by rw [lines]
    epoch := epoch, body := body, queues := queues
    lines := fun k => by rw [lines] }

theorem State.Moves.refl (g : Prop) (l : LineId) (s : State) : State.Moves g l s s :=
  .ofTable rfl (fun _ => rfl) (fun _ => .refl _ _ _) fun _ q => ⟨q, fun _ _ => rfl⟩

/-- Where `g` does not hold, the line of the moves says nothing. -/
theorem State.Moves.onLine {k : LineId} (m : State.Moves g k s t) (hk : g → k = l) : State.Moves g l s t :=
  { m with queues := fun hg q => ⟨(m.queues hg q).1, hk hg ▸ (m.queues hg q).2⟩ }

/-- A change of one line that is UP or not as before, and keeps its quota. -/
theorem State.Moves.ofLine (k : LineId) (f : Line → Line) (up : (f s.lines[k]).state = .up ↔ s.lines[k].state = .up)
    (quota : (f s.lines[k]).quota = s.lines[k].quota) (m : Line.Moves s.env s.lines[k] (f s.lines[k])) :
    State.Moves g l s (s.modLine k f) where
  stores := ⟨rfl, rfl, rfl, rfl⟩
  up j := by
    simp only [State.lineIsUp, State.line_modLine]
    split
    · next e => subst e; simp only [up]
    · rfl
  quota j := by
    rw [State.line_modLine]
    split
    · next e => rw [quota, e]
    · rfl
  epoch _ := rfl
  body _ := .refl _ _ _
  lines j := by
    rw [State.line_modLine]
    split
    · next e => exact e ▸ m
    · exact .refl
  queues _ q := ⟨⟨q.nodup, q.seats⟩, fun _ _ => rfl⟩

/-- A frame handed down (R74). -/
theorem State.moves_sendDown (g : Prop) (l : LineId) (s : State) (k : LineId) (f : DownFrame) :
    State.Moves g l s (s.sendDown k f) := by
  unfold State.sendDown
  apply State.Moves.ofLine <;> split
  · exact .rfl
  · exact .rfl
  · rfl
  · rfl
  · next room => exact .single (.send f room)
  · exact .single (.note _)

theorem State.moves_sendAbandon (g : Prop) (l : LineId) (s : State) (r : Record) : State.Moves g l s (s.sendAbandon r) :=
  State.moves_sendDown g l s _ _

/-- A record takes its place among the others: they stay, whatever becomes of the arbiters. -/
theorem State.record?_stored {x : Record} (o : t.slots = (s.putRecord h x).slots) :
    t.record? h = some x ∧ ∀ k, k ≠ h → t.record? k = s.record? k := by
  have same : ∀ k, t.record? k = (s.putRecord h x).record? k := fun k => by simp only [State.record?, o]
  exact ⟨by rw [same, State.record?_putRecord_same], fun k hk => by rw [same, State.record?_putRecord_other _ (Ne.symm hk)]⟩

/-- One record moves, whatever becomes of the arbiters. -/
theorem State.Moves.ofRecord {x : Record} (hr : s.record? h = some r) (m : Record.Moves g s.env r x)
    (o : t = { s with slots := (s.putRecord h x).slots, arbiters := t.arbiters })
    (queues : g → s.QueuesOk → t.QueuesOk ∧ ∀ k : LineId, k ≠ l → t.arbiters[k] = s.arbiters[k]) : State.Moves g l s t := by
  have slots : t.slots = (s.putRecord h x).slots := by rw [o]
  refine .ofTable (by rw [slots]; exact o) (fun k => ?_) (fun k => ?_) queues
  · rw [slots, State.epoch_putRecord]
  · rw [slots, State.putRecord, State.slot_setBody]
    split
    · next e =>
      subst e
      rw [s.body_of_record? hr]
      exact ⟨x, rfl, m⟩
    · exact .refl _ _ _

/-- A record that keeps its seat. -/
theorem State.moves_put {x : Record} (hr : s.record? h = some r) (m : Record.Moves g s.env r x) (seat : x.seat = r.seat) :
    State.Moves g l s (s.putRecord h x) :=
  .ofRecord hr m rfl fun _ q =>
    ⟨q.keep hr (State.record?_stored rfl).1 m.sameKey.1 seat (State.record?_stored rfl).2 rfl, fun _ _ => rfl⟩

/-! ### Requeueing (R82) -/

theorem State.putRecord_self (hr : s.record? h = some r) : s.putRecord h r = s := by
  have e : ({ s.slots[h] with body := .live r } : Slot) = s.slots[h] := by rw [← s.body_of_record? hr]
  rw [State.putRecord, State.setBody, e]
  simp

/-- A requeued record stands in its slot, and in the queue of its line where that is UP (R82). -/
theorem State.requeue_eq (hr : s.record? h = some r) (c : Cause) : s.requeue h c =
    if s.lineIsUp r.line then (s.putRecord h (Record.requeued s.env c r)).modArbiter r.line (Arbiter.join h c)
    else s.putRecord h (Record.requeued s.env c r) := by
  unfold State.requeue Record.requeued
  rw [hr]
  cases up : s.lineIsUp r.line <;> simp [State.env, up]

theorem State.requeue_putRecord (s : State) (h : Handle) (x : Record) (c : Cause) : (s.putRecord h x).requeue h c =
    if s.lineIsUp x.line then (s.putRecord h (Record.requeued s.env c x)).modArbiter x.line (Arbiter.join h c)
    else s.putRecord h (Record.requeued s.env c x) := by
  rw [State.requeue_eq (State.record?_putRecord_same s h x), State.putRecord_putRecord]
  rfl

theorem Record.seat_requeued {e : Env} {c : Cause} {x : Record} :
    (Record.requeued e c x).seat = if e.up x.line then c.seat else .away := by
  rw [Record.requeued_eq]
  cases e.up x.line <;> rfl

/-- A record that neither waits nor negotiates is requeued, as an event left it. -/
theorem State.moves_requeue {x : Record} {c : Cause} (hr : s.record? h = some r) (hl : r.line = l) (away : r.seat = .away)
    (m : Record.Moves g s.env r (Record.requeued s.env c x)) : State.Moves g l s ((s.putRecord h x).requeue h c) := by
  subst hl
  have line : x.line = r.line := (Record.sameKey_requeued s.env c x).1.symm.trans m.sameKey.1
  have seat := Record.seat_requeued (e := s.env) (c := c) (x := x)
  rw [State.requeue_putRecord, line]
  rw [line] at seat
  cases up : s.lineIsUp r.line with
  | true =>
    rw [show s.env.up r.line = true from up] at seat
    rw [if_pos rfl]
    refine .ofRecord hr m rfl fun _ q => ⟨?_, fun k hk => State.arbiter_modArbiter_other s (Ne.symm hk) _⟩
    exact q.join (by simp [hr, away]) (State.record?_stored rfl).1 m.sameKey.1 seat (State.record?_stored rfl).2 rfl
  | false =>
    rw [show s.env.up r.line = false from up] at seat
    rw [if_neg (by simp)]
    exact State.moves_put hr m (seat.trans away.symm)

theorem State.moves_requeue_self {c : Cause} (hr : s.record? h = some r) (hl : r.line = l) (away : r.seat = .away)
    (m : Record.Moves g s.env r (Record.requeued s.env c r)) : State.Moves g l s (s.requeue h c) := by
  have := State.moves_requeue (x := r) hr hl away m
  rwa [State.putRecord_self hr] at this

/-- The post-agreement check requeues the record with one of its causes, or leaves it (R96). -/
theorem State.postCheck_cases (s : State) (h : Handle) :
    s.postCheck h = s ∨ ∃ c, c ≠ .qualityUp ∧ s.postCheck h = s.requeue h c := by
  unfold State.postCheck
  split
  · exact .inl rfl
  split
  · exact .inl rfl
  split
  · exact .inr ⟨.lineCeiling, nofun, rfl⟩
  split
  · exact .inr ⟨.qualityDown, nofun, rfl⟩
  split
  · exact .inr ⟨.profile, nofun, rfl⟩
  · exact .inl rfl

theorem State.moves_postCheck (hr : s.record? h = some r) (hl : r.line = l) (agreed : r.state = .agreed) :
    State.Moves g l s (s.postCheck h) := by
  obtain e | ⟨c, -, e⟩ := s.postCheck_cases h
  · rw [e]; exact .refl g l s
  · rw [e]
    exact State.moves_requeue_self hr hl (by simp [Record.seat, agreed]) (.single (.requeue c (.inl agreed)))

/-! ### Failure (R97 to R99) -/

theorem State.arbiter_releaseGrant_other (s : State) {k l : LineId} (hk : k ≠ l) :
    (s.releaseGrant l).arbiters[k] = s.arbiters[k] := s.arbiter_modArbiter_other (Ne.symm hk) _


/-- A failed QUALITY_UP attempt leaves its record in one of four ways (R99, R111). -/
theorem State.returnQualityUp_cases (s : State) (h : Handle) (r : Record) (w : FailReason) (agreed : r.agreed.isSome = true)
    (down : w = .noCarrier → r.carrier = .down) : ∃ u, Record.Fails s.env r u ∧
      ((u.seat = .away ∧ u.cause = none ∧
        s.returnQualityUp h { r with attempt := none, timer := none } w = s.putRecord h u) ∨
      ∃ c, c ≠ .qualityUp ∧ u = Record.requeued s.env c (Record.returned s.env r) ∧
        s.returnQualityUp h { r with attempt := none, timer := none } w =
          (s.putRecord h (Record.returned s.env r)).requeue h c) := by
  unfold State.returnQualityUp
  dsimp only
  split
  · next e => exact ⟨_, .noCarrier agreed (down e), .inl ⟨rfl, rfl, rfl⟩⟩
  · have put : (s.putRecord h (Record.returned s.env r)).passToHoldover h = if r.carrier = .down then
        s.putRecord h (Record.heldOver s.env (Record.returned s.env r)) else s.putRecord h (Record.returned s.env r) := by
      unfold State.passToHoldover
      rw [State.record?_putRecord_same]
      dsimp only
      by_cases hc : r.carrier = .down
      · rw [if_pos ⟨rfl, hc⟩, if_pos hc, State.putRecord_putRecord]; rfl
      · rw [if_neg fun x => hc x.2, if_neg hc]
    have stay : ∀ t : State, ∀ v, t.record? h = some v → v.state ≠ .agreed → t.passToHoldover h = t := by
      intro t v hv n
      unfold State.passToHoldover
      rw [hv]
      exact if_neg fun x => n x.1
    change ∃ u, Record.Fails s.env r u ∧
      ((_ ∧ _ ∧ ((s.putRecord h (Record.returned s.env r)).postCheck h).passToHoldover h = _) ∨ ∃ c, _ ∧ _ ∧
        ((s.putRecord h (Record.returned s.env r)).postCheck h).passToHoldover h = _)
    obtain e | ⟨c, hc, e⟩ := (s.putRecord h (Record.returned s.env r)).postCheck_cases h
    · rw [e, put]
      split
      · next hc => exact ⟨_, .passed agreed hc, .inl ⟨rfl, rfl, rfl⟩⟩
      · next hc => exact ⟨_, .returned agreed hc, .inl ⟨rfl, rfl, rfl⟩⟩
    · rw [e]
      refine ⟨_, .requeued c, .inr ⟨c, hc, rfl, ?_⟩⟩
      refine stay _ (Record.requeued s.env c (Record.returned s.env r)) ?_ ?_
      · rw [State.requeue_putRecord]
        split <;> simp
      · rw [Record.requeued_eq]
        cases s.env.up _ <;> simp

/-- A failed attempt frees the grant and leaves its record by R98 or R99. -/
theorem State.failAttempt_cases (hr : s.record? h = some r) (w : FailReason) (down : w = .noCarrier → r.carrier = .down) :
    ∃ u, Record.Fails s.env r u ∧
      ((u.seat = .away ∧ (u.cause = none ∨ u.cause = r.cause) ∧
        s.failAttempt h w = (s.releaseGrant r.line).putRecord h u) ∨
      ∃ c, c ≠ .qualityUp ∧ r.cause = some .qualityUp ∧ u = Record.requeued s.env c (Record.returned s.env r) ∧
        s.failAttempt h w = ((s.releaseGrant r.line).putRecord h (Record.returned s.env r)).requeue h c) := by
  unfold State.failAttempt
  rw [hr]
  dsimp only
  split
  · next q =>
    obtain ⟨u, f, ⟨away, cause, e⟩ | ⟨c, hc, e⟩⟩ := (s.releaseGrant r.line).returnQualityUp_cases h r w q.2 down
    · exact ⟨u, f, .inl ⟨away, .inl cause, e⟩⟩
    · exact ⟨u, f, .inr ⟨c, hc, q.1, e⟩⟩
  · unfold State.placeBackoff
    dsimp only
    split
    · next n =>
      refine ⟨_, .backoff ?_, .inl ⟨rfl, .inr ?_, ?_⟩⟩
      · simpa [Record.dropAgreed_eq, State.env] using n
      · simp [Record.dropAgreed_eq, Record.enter_eq]
      · simp [Record.dropAgreed_eq, State.env, State.startTimer]
    · refine ⟨_, .failed, .inl ⟨rfl, .inr ?_, ?_⟩⟩
      · simp [Record.dropAgreed_eq, Record.enter_eq]
      · simp [Record.dropAgreed_eq, State.env]

/-- The failure of the attempt of the record with the grant, as the event that fails it has left the record. -/
theorem State.moves_fail {x : Record} {w : FailReason} (hr : s.record? h = some r) (hl : r.line = l)
    (state : r.state = .negotiating) (line : x.line = r.line) (down : w = .noCarrier → x.carrier = .down)
    (m : ∀ u, Record.Fails s.env x u → Record.Moves g s.env r u) :
    State.Moves g l s ((s.putRecord h x).failAttempt h w) := by
  subst hl
  have seat := Record.seat_grant.2 state
  obtain ⟨u, f, ⟨away, -, e⟩ | ⟨c, -, -, rfl, e⟩⟩ := State.failAttempt_cases (State.record?_putRecord_same s h x) w down
  · have e : (s.putRecord h x).failAttempt h w = (s.releaseGrant r.line).putRecord h u := by
      rw [e, ← line]
      exact State.putRecord_putRecord (s.releaseGrant x.line) h x u
    rw [e]
    refine .ofRecord hr (m u f) rfl fun _ q => ⟨?_, fun k hk => s.arbiter_releaseGrant_other hk⟩
    exact q.release hr seat (by simp [away, (m u f).sameKey.1]) (fun k hk => State.record?_putRecord_other _ (Ne.symm hk) u) rfl
  · have e : (s.putRecord h x).failAttempt h w =
        ((s.releaseGrant r.line).putRecord h (Record.returned s.env x)).requeue h c := by
      rw [e, ← line]
      exact congrArg (·.requeue h c) (State.putRecord_putRecord (s.releaseGrant x.line) h x _)
    have key := (m _ f).sameKey
    rw [e, State.requeue_putRecord]
    have line' : (Record.returned s.env x).line = r.line := line
    rw [line']
    have seat' := Record.seat_requeued (e := s.env) (c := c) (x := Record.returned s.env x)
    rw [line'] at seat'
    -- the returned record gives the grant up before it is requeued
    have freed : s.QueuesOk → ((s.releaseGrant r.line).putRecord h (Record.returned s.env x)).QueuesOk := fun q =>
      q.release hr seat (by simp [line, Record.returned, Record.enter_eq, Record.seat])
        (fun k hk => State.record?_putRecord_other _ (Ne.symm hk) _) rfl
    change State.Moves g r.line s (if s.lineIsUp r.line = true then _ else _)
    cases up : s.lineIsUp r.line with
    | true =>
      rw [show s.env.up r.line = true from up] at seat'
      rw [if_pos rfl]
      refine .ofRecord hr (m _ f) rfl fun _ q => ⟨?_, fun k hk => ?_⟩
      · refine (freed q).join (c := c) (l := r.line) (h := h) ?_ (State.record?_stored rfl).1 key.1 seat' (fun k hk => ?_) rfl
        · simp [line, Record.returned, Record.enter_eq, Record.seat]
        · exact ((State.record?_stored (s := s) rfl).2 k hk).trans
            (State.record?_putRecord_other (s.releaseGrant r.line) (Ne.symm hk) _).symm
      · rw [State.arbiter_modArbiter_other _ (Ne.symm hk)]
        exact s.arbiter_releaseGrant_other hk
    | false =>
      rw [show s.env.up r.line = false from up] at seat'
      rw [if_neg (by simp)]
      refine .ofRecord hr (m _ f) rfl fun _ q => ⟨?_, fun k hk => s.arbiter_releaseGrant_other hk⟩
      exact q.release hr seat (by simp only [State.record?_putRecord_same, Option.mem_some_iff]; rintro _ rfl; exact ⟨key.1, seat'⟩)
        (fun k hk => State.record?_putRecord_other _ (Ne.symm hk) _) rfl

theorem State.moves_failAttempt {w : FailReason} (hr : s.record? h = some r) (hl : r.line = l) (state : r.state = .negotiating)
    (down : w = .noCarrier → r.carrier = .down) : State.Moves g l s (s.failAttempt h w) := by
  have := State.moves_fail (g := g) (x := r) hr hl state rfl down fun u f => .single (.fail u state f)
  rwa [State.putRecord_self hr] at this

end

end Sys2Proof.Machine
end


section
/-! The hand-out (R83): its turns move the records of the line and keep the seats, and it ends with nobody waiting for a free grant. -/

namespace Sys2Proof.Machine

section
variable {g : Prop} {l : LineId} {s t u : State} {h : Handle} {r : Record}

/-! ### One turn -/

/-- What the end of an attempt makes of a record is not decided by the attempt itself. -/
theorem Record.Fails.started {e : Env} {x u : Record} (a : Option Attempt) (tm : Option Timer) (f : Record.Fails e x u) :
    Record.Fails e { x with attempt := a, timer := tm } u := by
  cases f with
  | backoff again => exact .backoff (r := { x with attempt := a, timer := tm }) again
  | failed => exact .failed (r := { x with attempt := a, timer := tm })
  | noCarrier agreed down => exact .noCarrier (r := { x with attempt := a, timer := tm }) agreed down
  | returned agreed up => exact .returned (r := { x with attempt := a, timer := tm }) agreed up
  | passed agreed down => exact .passed (r := { x with attempt := a, timer := tm }) agreed down
  | requeued c => exact .requeued (r := { x with attempt := a, timer := tm }) c

/-- The start of an attempt of the record that has just been given the grant: no record, an attempt that begins, or one that
fails at once for its empty offer (R87). -/
theorem State.startAttempt_cases (s : State) (l : LineId) (h : Handle) :
    (s.record? h = none ∧ s.startAttempt l h = s.releaseGrant l) ∨
    ∃ r, s.record? h = some r ∧
      ((∃ offer, s.startAttempt l h = (s.putRecord h { Record.enter (s.profileOf r.profile) .negotiating r with
          attempt := some { phase := .offered, offer := offer, rerun := false }
          timer := some { start := s.now, duration := 10 * (s.profileOf r.profile).negTimeout } }).sendDown r.line
            (.negotiate r.station offer)) ∨
      s.startAttempt l h =
        (s.putRecord h (Record.enter (s.profileOf r.profile) .negotiating r)).failAttempt h .noCommon) := by
  unfold State.startAttempt
  split
  · next e => exact .inl ⟨e, rfl⟩
  · next r e =>
    refine .inr ⟨r, e, ?_⟩
    dsimp only
    split
    · exact .inr rfl
    · exact .inl ⟨_, rfl⟩

/-- One turn of the hand-out (R83). -/
theorem State.moves_turn (q : g → s.QueuesOk) (free : s.arbiters[l].grant = none) (next : s.arbiters[l].next? = some h) :
    State.Moves g l s ((s.modArbiter l Arbiter.giveGrant).startAttempt l h) := by
  obtain ⟨hr, e⟩ | ⟨r, hr, e⟩ := (s.modArbiter l Arbiter.giveGrant).startAttempt_cases l h
  · rw [e]
    refine .ofTable rfl (fun _ => rfl) (fun _ => .refl _ _ _) fun hg _ => ?_
    obtain ⟨r, hr', -⟩ := (q hg).next_waits next
    exact absurd (hr.symm.trans hr') nofun
  · have hr : s.record? h = some r := hr
    have waits : g → r.line = l ∧ r.state = .waiting := fun hg => by
      obtain ⟨x, hx, hl, hw⟩ := (q hg).next_waits next
      cases hr.symm.trans hx
      exact ⟨hl, hw⟩
    let started (offer : StepSet) : Record := { Record.enter (s.profileOf r.profile) .negotiating r with
      attempt := some { phase := .offered, offer := offer, rerun := false }
      timer := some { start := s.now, duration := 10 * (s.profileOf r.profile).negTimeout } }
    have put : ∀ offer, State.Moves g l s ((s.modArbiter l Arbiter.giveGrant).putRecord h (started offer)) := fun offer => by
      refine .ofRecord hr (.single (.start (fun hg => (waits hg).2) offer)) rfl fun hg q =>
        ⟨?_, fun k hk => State.arbiter_modArbiter_other s (Ne.symm hk) _⟩
      exact q.giveGrant free next hr (waits hg).1 (State.record?_stored (s := s) rfl).1 (waits hg).1 rfl
        (State.record?_stored rfl).2 rfl
    obtain ⟨offer, e⟩ | e := e
    · rw [e]
      exact (put offer).trans (State.moves_sendDown g l _ _ _)
    · rw [e]
      refine (put 0).trans ?_
      have fails := State.moves_fail (g := g) (l := r.line) (w := .noCommon)
        (x := Record.enter (s.profileOf r.profile) .negotiating r)
        (State.record?_putRecord_same (s.modArbiter l Arbiter.giveGrant) h (started 0)) rfl rfl rfl nofun
        fun u f => .single (.fail u rfl (f.started _ _))
      rw [State.putRecord_putRecord] at fails
      exact fails.onLine fun hg => (waits hg).1

/-! ### The loop -/

/-- One turn of the loop: it has ended, or the next waiting record takes the free grant. -/
theorem handOutLoop_turn (n : Nat) (l : LineId) (s : State) :
    ((s.lineIsUp l = true → s.arbiters[l].Busy) ∧ handOutLoop (n + 1) l s = s) ∨
    ∃ h, s.arbiters[l].grant = none ∧ s.arbiters[l].next? = some h ∧
      handOutLoop (n + 1) l s = handOutLoop n l ((s.modArbiter l Arbiter.giveGrant).startAttempt l h) := by
  rw [handOutLoop]
  cases hg : s.arbiters[l].grant with
  | some x => exact .inl ⟨fun _ n => absurd (hg.symm.trans n) nofun, by simp⟩
  | none =>
    cases up : s.lineIsUp l with
    | false => exact .inl ⟨nofun, by simp⟩
    | true =>
      cases hn : s.arbiters[l].next? with
      | some h => exact .inr ⟨h, rfl, rfl, by simp⟩
      | none =>
        refine .inl ⟨fun _ _ => ?_, by simp⟩
        unfold Arbiter.next? at hn
        split at hn
        · cases hn
        · next e => rw [e, List.nil_append, List.head?_eq_none_iff.1 hn]

theorem State.moves_handOutLoop (n : Nat) (q : g → s.QueuesOk) : State.Moves g l s (handOutLoop n l s) := by
  induction n generalizing s with
  | zero => exact .refl g l s
  | succ n ih =>
    obtain ⟨-, e⟩ | ⟨h, free, next, e⟩ := handOutLoop_turn n l s
    · rw [e]; exact .refl g l s
    · rw [e]
      have turn := State.moves_turn q free next
      exact turn.trans (ih fun hg => (turn.queues hg (q hg)).1)

/-- The hand-out of a line whose seats are right (R83). -/
theorem State.moves_handOut (q : g → s.QueuesOk) : State.Moves g l s (s.handOut l) := State.moves_handOutLoop _ q

/-! ### The end of the hand-out -/

/-- The turns a record can take: two for a QUALITY_UP attempt, which can fail back into the queue for another cause. -/
def State.turns (s : State) (h : Handle) : Nat :=
  if (s.record? h).any fun r => decide (r.cause = some .qualityUp) then 2 else 1

/-- The turns the queue of a line can take. -/
def State.queueTurns (s : State) (l : LineId) : Nat :=
  ((s.arbiters[l].urgent ++ s.arbiters[l].normal).map s.turns).sum

theorem State.turns_le (s : State) (h : Handle) : s.turns h ≤ 2 := by unfold State.turns; split <;> omega

theorem State.one_le_turns (s : State) (h : Handle) : 1 ≤ s.turns h := by unfold State.turns; split <;> omega

theorem State.queueTurns_le (s : State) (l : LineId) :
    s.queueTurns l ≤ 2 * (s.arbiters[l].urgent.length + s.arbiters[l].normal.length) := by
  have := List.sum_le_card_nsmul ((s.arbiters[l].urgent ++ s.arbiters[l].normal).map s.turns) 2 (by
    intro x hx
    obtain ⟨h, -, rfl⟩ := List.mem_map.1 hx
    exact s.turns_le h)
  simpa [State.queueTurns, Nat.mul_comm] using this

/-- The queue that is left when its head has been given the grant. -/
theorem Arbiter.giveGrant_queue {a : Arbiter} (next : a.next? = some h) : a.giveGrant.grant = some h ∧
    a.urgent ++ a.normal = h :: (a.giveGrant.urgent ++ a.giveGrant.normal) := by
  unfold Arbiter.next? at next
  unfold Arbiter.giveGrant
  cases hu : a.urgent with
  | cons x rest =>
    rw [hu] at next
    cases next
    exact ⟨rfl, rfl⟩
  | nil =>
    rw [hu] at next
    dsimp only at next
    obtain ⟨rest, hn⟩ := List.head?_eq_some_iff.1 next
    simp [hn]

theorem Arbiter.join_queue (c : Cause) (a : Arbiter) : ∃ x y, a.urgent ++ a.normal = x ++ y ∧
    (Arbiter.join h c a).urgent ++ (Arbiter.join h c a).normal = x ++ h :: y := by
  unfold Arbiter.join
  split
  · exact ⟨a.urgent, a.normal, rfl, by simp⟩
  · exact ⟨a.urgent ++ a.normal, [], by simp, by simp⟩

/-- A turn gives the grant away, or leaves fewer turns to take (R83). -/
theorem State.turn_ends (free : s.arbiters[l].grant = none) (next : s.arbiters[l].next? = some h) :
    let t := (s.modArbiter l Arbiter.giveGrant).startAttempt l h
    t.arbiters[l].grant ≠ none ∨ t.queueTurns l < s.queueTurns l := by
  intro t
  obtain ⟨held, queue⟩ := Arbiter.giveGrant_queue next
  -- the head of the queue leaves it, and nobody's turns become more
  have less : ∀ v : State, (∀ k, v.turns k ≤ s.turns k) →
      v.arbiters[l].urgent ++ v.arbiters[l].normal = s.arbiters[l].giveGrant.urgent ++ s.arbiters[l].giveGrant.normal →
      v.queueTurns l < s.queueTurns l := by
    intro v hv hq
    have sum : ∀ xs : List Handle, (xs.map v.turns).sum ≤ (xs.map s.turns).sum := fun xs =>
      List.sum_le_sum fun k _ => hv k
    have := sum (s.arbiters[l].giveGrant.urgent ++ s.arbiters[l].giveGrant.normal)
    have := s.one_le_turns h
    simp only [State.queueTurns, hq, queue, List.map_cons, List.sum_cons]
    omega
  have given : (s.modArbiter l Arbiter.giveGrant).arbiters[l] = s.arbiters[l].giveGrant := State.arbiter_modArbiter_same s l _
  obtain ⟨hr, e⟩ | ⟨r, hr, ⟨offer, e⟩ | e⟩ := (s.modArbiter l Arbiter.giveGrant).startAttempt_cases l h
  · refine .inr (less t (fun k => ?_) ?_)
    · rw [show t = _ from e]; exact le_rfl
    · rw [show t = _ from e, State.releaseGrant, State.arbiter_modArbiter_same, given]
  · refine .inl ?_
    rw [show t = _ from e, State.sendDown_arbiters, State.putRecord_arbiters, given, held]
    exact nofun
  · have hr : s.record? h = some r := hr
    have e : t = _ := e
    refine .inr ?_
    obtain ⟨u, -, ⟨-, cause, e'⟩ | ⟨c, hc, up, rfl, e'⟩⟩ := State.failAttempt_cases
      (State.record?_putRecord_same (s.modArbiter l Arbiter.giveGrant) h
        (Record.enter (s.profileOf r.profile) .negotiating r)) .noCommon nofun
    · have e : t = (((s.modArbiter l Arbiter.giveGrant).putRecord h _).releaseGrant r.line).putRecord h u := e.trans e'
      refine less t (fun k => ?_) ?_
      · rw [e]
        by_cases hk : k = h
        · subst hk
          simp only [State.turns, State.record?_putRecord_same, hr, Option.any_some, decide_eq_true_eq]
          obtain cause | cause := cause
          · simp only [cause, reduceCtorEq, if_false]; split <;> omega
          · rw [cause]; exact le_rfl
        · simp [State.turns, State.record?_putRecord_other _ (Ne.symm hk)]
      · rw [e, State.putRecord_arbiters, State.releaseGrant, State.arbiter_modArbiter]
        split
        · next x => subst x; rw [State.putRecord_arbiters, given]
        · rw [State.putRecord_arbiters, given]
    · let v := ((s.modArbiter l Arbiter.giveGrant).releaseGrant r.line).putRecord h
        (Record.requeued s.env c (Record.returned s.env (Record.enter (s.profileOf r.profile) .negotiating r)))
      have vr : ∀ k, v.record? k = if h = k then some _ else s.record? k := fun k =>
        State.record?_putRecord ((s.modArbiter l Arbiter.giveGrant).releaseGrant r.line) h k _
      have one : v.turns h = 1 := by
        simp [State.turns, vr, Record.requeued_eq, hc]
      have two : s.turns h = 2 := by
        have up : r.cause = some .qualityUp := up
        simp [State.turns, hr, up]
      have turns : ∀ k, v.turns k ≤ s.turns k := fun k => by
        by_cases hk : h = k
        · subst hk; omega
        · rw [State.turns, vr, if_neg hk]; exact le_rfl
      have va : v.arbiters[l].urgent ++ v.arbiters[l].normal =
          s.arbiters[l].giveGrant.urgent ++ s.arbiters[l].giveGrant.normal := by
        rw [show v.arbiters = ((s.modArbiter l Arbiter.giveGrant).releaseGrant r.line).arbiters from rfl,
          State.releaseGrant, State.arbiter_modArbiter]
        split
        · next x => subst x; rw [given]
        · rw [given]
      have e : t = if s.lineIsUp r.line then v.modArbiter r.line (Arbiter.join h c) else v := by
        refine (e.trans e').trans ((State.requeue_putRecord _ h _ c).trans ?_)
        change (if s.lineIsUp r.line = true then
          ((((s.modArbiter l Arbiter.giveGrant).putRecord h _).releaseGrant r.line).putRecord h _).modArbiter r.line _ else
          (((s.modArbiter l Arbiter.giveGrant).putRecord h _).releaseGrant r.line).putRecord h _) = _
        rw [show ∀ x y, (((s.modArbiter l Arbiter.giveGrant).putRecord h x).releaseGrant r.line).putRecord h y =
          ((s.modArbiter l Arbiter.giveGrant).releaseGrant r.line).putRecord h y from fun x y =>
            State.putRecord_putRecord ((s.modArbiter l Arbiter.giveGrant).releaseGrant r.line) h x y]
        rfl
      have stays := less v turns va
      cases line : s.lineIsUp r.line with
      | false => rw [e, line, if_neg (by simp)]; exact stays
      | true =>
        rw [e, line, if_pos rfl]
        by_cases hl : r.line = l
        · obtain ⟨x, y, hq, hj⟩ := Arbiter.join_queue (h := h) c v.arbiters[l]
          have sum : ∀ xs : List Handle, (xs.map v.turns).sum ≤ (xs.map s.turns).sum := fun xs =>
            List.sum_le_sum fun k _ => turns k
          have := sum (x ++ y)
          have q : s.queueTurns l = 2 + ((x ++ y).map s.turns).sum := by
            rw [State.queueTurns, queue, ← va, hq, List.map_cons, List.sum_cons, two]
          have j : (v.modArbiter r.line (Arbiter.join h c)).queueTurns l = 1 + ((x ++ y).map v.turns).sum := by
            rw [State.queueTurns, hl, State.arbiter_modArbiter_same, hj]
            change ((x ++ h :: y).map v.turns).sum = _
            simp only [List.map_append, List.map_cons, List.sum_append, List.sum_cons, one]
            omega
          omega
        · have : (v.modArbiter r.line (Arbiter.join h c)).queueTurns l = v.queueTurns l := by
            rw [State.queueTurns, State.arbiter_modArbiter_other _ hl]
            rfl
          omega

/-- The hand-out of an UP line ends with the grant held or nobody waiting (R83). -/
theorem State.busy_handOut (s : State) (l : LineId) (up : s.lineIsUp l = true) : (s.handOut l).arbiters[l].Busy := by
  have loop : ∀ n (v : State), v.lineIsUp l = true → v.queueTurns l ≤ n → (handOutLoop n l v).arbiters[l].Busy := by
    intro n
    induction n with
    | zero =>
      intro v _ hn _
      show v.arbiters[l].urgent ++ v.arbiters[l].normal = []
      cases e : v.arbiters[l].urgent ++ v.arbiters[l].normal with
      | nil => rfl
      | cons x xs =>
        have := v.one_le_turns x
        simp only [State.queueTurns, e, List.map_cons, List.sum_cons] at hn
        omega
    | succ n ih =>
      intro v up hn
      obtain ⟨busy, e⟩ | ⟨h, free, next, e⟩ := handOutLoop_turn n l v
      · rw [e]; exact busy up
      · rw [e]
        have up' := (State.moves_turn (g := False) nofun free next).up l
        rcases State.turn_ends free next with held | fewer
        · cases n with
          | zero => exact fun x => absurd x held
          | succ n =>
            obtain ⟨busy, e⟩ | ⟨-, free', -, -⟩ := handOutLoop_turn n l
              ((v.modArbiter l Arbiter.giveGrant).startAttempt l h)
            · rw [e]; exact busy (up'.trans up)
            · exact absurd free' held
        · exact ih _ (up'.trans up) (by omega)
  exact loop _ s up (s.queueTurns_le l)

end

end Sys2Proof.Machine
end


section
/-! What one event does to the table, the lines and the arbiters: each slot takes one turn, each line moves, keys, quotas and seats
stay right, and every record keeps fitting its line. -/

namespace Sys2Proof.Machine

/-! ### Turns of a slot -/

/-- What one event does to a slot (R1, R2, R14 to R22, R26, R146). -/
inductive Slot.Turn (g b : Prop) (e : Env) (x y : Slot) : Prop
  | moves (epoch : y.epoch = x.epoch) (body : SlotBody.Moves g e x.body y.body)
  | agrees (r u : Record) (k : Sys2Proof.Step) (epoch : y.epoch = x.epoch) (old : x.body = .live r) (new : y.body = .live u)
    (confirms : r.Confirms k) (moves : Record.Moves g e (Record.succeeded e k r) u)
  | leaves (r : Record) (c : BitVec 5) (epoch : y.epoch = x.epoch) (old : x.body = .live r)
    (new : y.body = .vacated r.line r.station c) (set : c ≠ 0)
  | creates (l : LineId) (st : Station) (r u : Record) (epoch : y.epoch = Epoch.next x.epoch)
    (old : x.body.isLive = false) (new : y.body = .live u) (created : Record.Created b e l st r)
    (moves : Record.Moves g e r u)
  | clears (epoch : y.epoch = x.epoch) (new : y.body = .free)
  | acknowledges (l : LineId) (st : Station) (c d : BitVec 5) (epoch : y.epoch = x.epoch) (old : x.body = .vacated l st c)
    (new : y.body = .vacated l st d) (set : d ≠ 0)

theorem Record.Created.mono {b c : Prop} {e : Env} {l : LineId} {st : Station} {r : Record} (h : b → c)
    (a : Record.Created c e l st r) : Record.Created b e l st r := by
  cases a with
  | mk p valid mask cause kinds kind => exact .mk p (valid ∘ h) mask cause kinds kind

/-- The records of a slot may go on moving. -/
theorem Slot.Turn.andThen {g b : Prop} {e : Env} {x y z : Slot} (a : Slot.Turn g b e x y) (epoch : z.epoch = y.epoch)
    (body : SlotBody.Moves g e y.body z.body) : Slot.Turn g b e x z := by
  cases a with
  | moves ep m => exact .moves (epoch.trans ep) (m.trans body)
  | agrees r u k ep old new confirms moves =>
    rw [new] at body
    obtain ⟨v, hv, n⟩ := body
    exact .agrees r v k (epoch.trans ep) old hv confirms (moves.trans n)
  | leaves r c ep old new set =>
    rw [new] at body
    exact .leaves r c (epoch.trans ep) old body set
  | creates l st r u ep old new created moves =>
    rw [new] at body
    obtain ⟨v, hv, n⟩ := body
    exact .creates l st r v (epoch.trans ep) old hv created (moves.trans n)
  | clears ep new =>
    rw [new] at body
    exact .clears (epoch.trans ep) body
  | acknowledges l st c d ep old new set =>
    rw [new] at body
    exact .acknowledges l st c d (epoch.trans ep) old body set

/-! ### Keys and quotas (R12, R13) -/

theorem State.keysUnique_iff {s : State} : s.KeysUnique ↔
    ∀ h k r u, s.record? h = some r → s.record? k = some u → u.line = r.line → u.station = r.station → h = k := by
  constructor
  · intro unique h k r u hr hu line station
    have a := unique h r hr
    have b := unique k u hu
    rw [line, station] at b
    exact Option.some.inj (a.symm.trans b)
  · intro unique h r hr
    cases e : s.findKey r.line r.station with
    | none => exact absurd ⟨rfl, rfl⟩ (State.findKey_none.1 e h r hr)
    | some k =>
      obtain ⟨u, hu, line, station⟩ := State.findKey_some e
      exact congrArg some (unique h k r u hr hu line station).symm

theorem SlotBody.isLiveOf_iff {b : SlotBody} {l : LineId} : b.isLiveOf l = true ↔ ∃ r, b = .live r ∧ r.line = l := by
  cases b <;> simp [SlotBody.isLiveOf]

/-- A change that makes no record keeps keys unique and the counts within their quotas (R12, R13). -/
theorem State.keys_shrink {s t : State} (sub : ∀ h u, t.record? h = some u → ∃ r, s.record? h = some r ∧ r.SameKey u)
    (quota : ∀ l : LineId, t.lines[l].quota = s.lines[l].quota) (unique : s.KeysUnique) (quotas : s.QuotasOk) :
    t.KeysUnique ∧ t.QuotasOk := by
  refine ⟨State.keysUnique_iff.2 fun h k u v hu hv line station => ?_, fun l => ?_⟩
  · obtain ⟨r, hr, rl, rs⟩ := sub h u hu
    obtain ⟨q, hq, ql, qs⟩ := sub k v hv
    exact State.keysUnique_iff.1 unique h k r q hr hq (by rw [← ql, line, rl]) (by rw [← qs, station, rs])
  · rw [quota]
    refine Nat.le_trans (List.countP_mono_left fun h _ live => ?_) (quotas l)
    obtain ⟨u, hu, hl⟩ := SlotBody.isLiveOf_iff.1 live
    obtain ⟨r, hr, rl, -⟩ := sub h u (t.record?_of_body hu)
    exact SlotBody.isLiveOf_iff.2 ⟨r, s.body_of_record? hr, by rw [← rl, hl]⟩

theorem SlotBody.Moves.record {g : Prop} {e : Env} {s t : State} {h : Handle} {u : Record}
    (m : SlotBody.Moves g e s.slots[h].body t.slots[h].body) (hu : t.record? h = some u) :
    ∃ r, s.record? h = some r ∧ Record.Moves g e r u := by
  have new := t.body_of_record? hu
  cases hb : s.slots[h].body with
  | live r =>
    rw [hb, new] at m
    obtain ⟨v, hv, m⟩ := m
    cases hv
    exact ⟨r, s.record?_of_body hb, m⟩
  | free | vacated =>
    rw [hb, new] at m
    cases m

/-! ### Changes -/

/-- Every record fits its line (R81, R100, R117). -/
abbrev State.RecordsFit (s : State) : Prop := s.EveryRecord (Record.Fits s.env)

/-- Every line names a VALID profile (R60). -/
abbrev State.LinesBound (s : State) : Prop := ∀ l : LineId, s.isValid s.lines[l].defaultProfile = true

/-- An event on line `l`, but for the hand-out at its end: the seats of that line alone may change. -/
structure State.Change (g : Prop) (l : LineId) (s t : State) : Prop where
  slots : ∀ h : Handle, Slot.Turn g s.LinesBound t.env s.slots[h] t.slots[h]
  lines : ∀ k : LineId, Line.Moves t.env s.lines[k] t.lines[k]
  keys : s.KeysUnique → s.QuotasOk → t.KeysUnique ∧ t.QuotasOk
  queues : g → s.QueuesOk → t.QueuesOk ∧ ∀ k : LineId, k ≠ l → t.arbiters[k] = s.arbiters[k]
  fits : g → s.QueuesOk → s.RecordsFit → t.RecordsFit

section
variable {g : Prop} {l : LineId} {s t u : State} {h : Handle} {r : Record}

theorem State.Moves.record (m : State.Moves g l s t) {x : Record} (hx : t.record? h = some x) :
    ∃ r, s.record? h = some r ∧ Record.Moves g s.env r x := (m.body h).record hx

theorem State.Moves.keys (m : State.Moves g l s t) : s.KeysUnique → s.QuotasOk → t.KeysUnique ∧ t.QuotasOk :=
  State.keys_shrink (fun h _ hu => by
    obtain ⟨r, hr, n⟩ := m.record hu
    exact ⟨r, hr, n.sameKey⟩) m.quota

theorem State.Moves.fits (m : State.Moves g l s t) (hg : g) (fit : s.RecordsFit) : t.RecordsFit := by
  intro h u hu
  obtain ⟨r, hr, n⟩ := m.record hu
  rw [m.env]
  cases eq_true hg
  exact n.keep (fun _ _ => Record.Move.fits) (fit h r hr)

theorem State.Moves.change (m : State.Moves g l s t) : State.Change g l s t where
  slots h := .moves (m.epoch h) (m.env ▸ m.body h)
  lines k := m.env ▸ m.lines k
  keys := m.keys
  queues := m.queues
  fits hg _ fit := m.fits hg fit

/-- The records go on moving after a change. -/
theorem State.Change.andThen (a : State.Change g l s t) (m : State.Moves g l t u) : State.Change g l s u where
  slots h := m.env ▸ (a.slots h).andThen (m.epoch h) (m.body h)
  lines k := m.env ▸ (a.lines k).trans (m.lines k)
  keys unique quotas := by
    obtain ⟨x, y⟩ := a.keys unique quotas
    exact m.keys x y
  queues hg q := by
    obtain ⟨q', out⟩ := a.queues hg q
    obtain ⟨q'', out'⟩ := m.queues hg q'
    exact ⟨q'', fun k hk => (out' k hk).trans (out k hk)⟩
  fits hg q fit := m.fits hg (a.fits hg q fit)

/-- What a creation asks of a profile may be asked on weaker grounds. -/
theorem Slot.Turn.mono {b c : Prop} {e : Env} {x y : Slot} (hbc : b → c) (a : Slot.Turn g c e x y) : Slot.Turn g b e x y := by
  cases a with
  | moves ep m => exact .moves ep m
  | agrees r u k ep old new confirms moves => exact .agrees r u k ep old new confirms moves
  | leaves r d ep old new set => exact .leaves r d ep old new set
  | creates l st r u ep old new created moves => exact .creates l st r u ep old new (created.mono hbc) moves
  | clears ep new => exact .clears ep new
  | acknowledges l st d d' ep old new set => exact .acknowledges l st d d' ep old new set

/-- A change after a move of the line that leaves the slots as they are, such as the line part of a frame heard (R64). -/
theorem State.Change.after (m : State.Moves g l s t) (slots : t.slots = s.slots) (bound : s.LinesBound → t.LinesBound)
    (env : u.env = t.env) (a : State.Change g l t u) : State.Change g l s u where
  slots h := by
    have turn := a.slots h
    rw [slots] at turn
    exact turn.mono bound
  lines k := (env.trans m.env ▸ m.lines k).trans (a.lines k)
  keys unique quotas := by
    obtain ⟨x, y⟩ := m.keys unique quotas
    exact a.keys x y
  queues hg q := by
    obtain ⟨q', out⟩ := m.queues hg q
    obtain ⟨q'', out'⟩ := a.queues hg q'
    exact ⟨q'', fun k hk => (out' k hk).trans (out k hk)⟩
  fits hg q fit := a.fits hg (m.queues hg q).1 (m.fits hg fit)

end

end Sys2Proof.Machine
end


section
/-! What one event does to the part: a change on one line and the hand-out at its end. -/

namespace Sys2Proof.Machine

/-! ### Events -/

/-- What an event does to the slots, the lines and the arbiters; seats and fit are kept where `g` holds. -/
structure State.Event (g : Prop) (s t : State) : Prop where
  slots : ∀ h : Handle, Slot.Turn g s.LinesBound t.env s.slots[h] t.slots[h]
  lines : ∀ k : LineId, Line.Moves t.env s.lines[k] t.lines[k]
  keys : s.KeysUnique → s.QuotasOk → t.KeysUnique ∧ t.QuotasOk
  queues : g → s.QueuesOk → t.QueuesOk
  fits : g → s.QueuesOk → s.RecordsFit → t.RecordsFit
  busy : g → s.ArbitersOk → s.RecordsFit → ∀ k : LineId, t.arbiters[k].Busy

/-- On a line that is not UP nobody waits (R81). -/
theorem State.busy_of_down {s : State} {l : LineId} (q : s.QueuesOk) (fit : s.RecordsFit) (down : s.lineIsUp l = false) :
    s.arbiters[l].Busy := by
  intro _
  have nobody : ∀ h, ∀ r ∈ s.record? h, r.line = l → r.state ≠ .waiting := by
    intro h r hr hl waits
    have up : s.lineIsUp r.line = true := (fit h r hr).1 (.inl waits)
    rw [hl, down] at up
    cases up
  refine List.eq_nil_iff_forall_not_mem.2 fun h hm => ?_
  obtain hm | hm := List.mem_append.1 hm
  · obtain ⟨r, hr, hl, seat⟩ := (q.seats l h).urgent.1 hm
    exact nobody h r hr hl (Record.seat_urgent.1 seat).1
  · obtain ⟨r, hr, hl, seat⟩ := (q.seats l h).normal.1 hm
    exact nobody h r hr hl (Record.seat_normal.1 seat).1

section
variable {g : Prop} {l : LineId} {s t u : State} {h : Handle} {r : Record}

/-- A change whose line has nobody waiting for a free grant at its end. -/
theorem State.Change.event (a : State.Change g l s t)
    (busy : g → s.ArbitersOk → t.QueuesOk → t.RecordsFit → t.arbiters[l].Busy) : State.Event g s t where
  slots := a.slots
  lines := a.lines
  keys := a.keys
  queues hg q := (a.queues hg q).1
  fits := a.fits
  busy hg ok fit k := by
    obtain ⟨q, before⟩ := State.arbitersOk_iff.1 ok
    obtain ⟨q', out⟩ := a.queues hg q
    by_cases hk : k = l
    · subst hk
      exact busy hg ok q' (a.fits hg q fit)
    · rw [out k hk]
      exact before k

/-- A change that ends with the hand-out of its line (R83). -/
theorem State.Change.handOut (a : State.Change g l s t) (q : g → s.QueuesOk) : State.Event g s (t.handOut l) := by
  have m : State.Moves g l t (t.handOut l) := State.moves_handOut fun hg => (a.queues hg (q hg)).1
  refine (a.andThen m).event fun hg _ q' fit => ?_
  cases up : t.lineIsUp l with
  | true => exact State.busy_handOut t l up
  | false => exact State.busy_of_down q' fit ((m.up l).trans up)

theorem State.Moves.handOut (m : State.Moves g l s t) (q : g → s.QueuesOk) : State.Event g s (t.handOut l) :=
  m.change.handOut q

/-- A change that leaves the arbiters as they are. -/
theorem State.Change.quiet (a : State.Change g l s t) (arbiters : t.arbiters = s.arbiters) : State.Event g s t :=
  a.event fun _ ok _ _ => by
    rw [arbiters]
    exact (State.arbitersOk_iff.1 ok).2 l

theorem State.Moves.quiet (m : State.Moves g l s t) (arbiters : t.arbiters = s.arbiters) : State.Event g s t :=
  m.change.quiet arbiters

theorem State.Event.refl (g : Prop) (s : State) : State.Event g s s := (State.Moves.refl g 0 s).quiet rfl

/-- Two states that agree on the table, the lines, the arbiters, the profiles, the ladders and the time. -/
def State.SameTable (s t : State) : Prop := t = { s with
  poweringOn := t.poweringOn, resetLow := t.resetLow, staging := t.staging, sweep := t.sweep, port := t.port
  spi := t.spi, lookup := t.lookup, flags := t.flags, enables := t.enables, pending := t.pending }

/-- An event is not about anything else. -/
theorem State.Event.around {s' t' : State} (a : s.SameTable s') (b : t.SameTable t') (e : State.Event g s' t) :
    State.Event g s t' := by
  rw [a] at e
  rw [b]
  exact ⟨e.slots, e.lines, e.keys, fun hg q => e.queues hg ⟨q.nodup, q.seats⟩ |> fun q => ⟨q.nodup, q.seats⟩,
    fun hg q => e.fits hg ⟨q.nodup, q.seats⟩, e.busy⟩

/-! ### Changes of one record -/

/-- A WAITING record of the normal class moves to the urgent class (R84). -/
theorem State.moves_classMove {c : Cause} (hr : s.record? h = some r) (hl : r.line = l) (waiting : r.state = .waiting)
    (normal : h ∈ s.arbiters[l].normal) (urgent : c.isUrgent = true) : State.Moves g l s (s.classMove h c) := by
  subst hl
  unfold State.classMove
  rw [hr]
  refine .ofRecord hr (.single (.classMove waiting c)) rfl fun _ q =>
    ⟨?_, fun k hk => State.arbiter_modArbiter_other _ (Ne.symm hk) _⟩
  refine q.moveUrgent hr normal (State.record?_stored (s := s) rfl).1 rfl ?_ (State.record?_stored (s := s) rfl).2 rfl
  exact Record.seat_urgent.2 ⟨waiting, urgent⟩

/-- A record that stands away from the arbiter is requeued (R82). -/
theorem State.moves_requeueAway {c : Cause} (hr : s.record? h = some r) (hl : r.line = l)
    (state : r.state = .agreed ∨ r.state = .holdover ∨ r.state = .backoff ∨ r.state = .parked ∨
      (r.state = .failed ∧ r.attempts = 0)) : State.Moves g l s (s.requeue h c) := by
  refine State.moves_requeue_self hr hl ?_ (.single (.requeue c state))
  rw [Record.seat_away]
  rcases state with e | e | e | e | ⟨e, -⟩ <;> rw [e] <;> decide

/-- rerun is yes (R40, R106). -/
theorem State.moves_rerun (hr : s.record? h = some r) :
    State.Moves g l s (s.putRecord h { r with attempt := r.attempt.map fun a => { a with rerun := true } }) :=
  State.moves_put hr (.single .rerun) rfl

theorem State.moves_rebindReact (hr : s.record? h = some r) (hl : r.line = l) : State.Moves g l s (s.rebindReact h r) := by
  unfold State.rebindReact
  split
  case h_1 state =>
    split
    · exact State.moves_requeueAway hr hl (.inl state)
    · exact .refl g l s
  case h_2 state =>
    split
    · exact State.moves_requeueAway hr hl (.inr (.inl state))
    · exact .refl g l s
  case h_3 => exact State.moves_rerun hr
  all_goals exact .refl g l s

theorem State.moves_capReact (hr : s.record? h = some r) (hl : r.line = l) : State.Moves g l s (s.capReact h r) := by
  subst hl
  unfold State.capReact
  simp only
  split
  case h_1 state =>
    split
    · exact State.moves_requeueAway hr rfl (.inl state)
    · exact .refl g _ s
  case h_2 state =>
    split
    · exact State.moves_requeueAway hr rfl (.inr (.inl state))
    · exact .refl g _ s
  case h_3 state =>
    split
    next normal =>
      rw [Bool.and_eq_true, List.contains_iff_mem] at normal
      exact State.moves_classMove hr rfl state normal.2 rfl
    · exact .refl g _ s
  case h_4 => exact State.moves_rerun hr
  all_goals exact .refl g _ s

theorem State.moves_ceilingReact {q : Option Quality} (hr : s.record? h = some r) (hl : r.line = l) :
    State.Moves g l s (s.ceilingReact h q r) := by
  subst hl
  unfold State.ceilingReact
  split
  · split
    case h_1 state =>
      split
      · exact State.moves_requeueAway hr rfl (.inl state)
      · split
        · exact State.moves_requeueAway hr rfl (.inl state)
        · exact .refl g _ s
    case h_2 state =>
      split
      next normal =>
        rw [List.contains_iff_mem] at normal
        exact State.moves_classMove hr rfl state normal.2 rfl
      · exact .refl g _ s
    all_goals exact .refl g _ s
  · exact .refl g _ s

theorem State.moves_ceilingVisit (c : Step) : State.Moves g l s (s.ceilingVisit l c h) := by
  unfold State.ceilingVisit
  split
  · exact .refl g l s
  next r hr =>
    split
    · exact .refl g l s
    · split
      next above =>
        obtain ⟨hl, -⟩ := above
        split
        case h_1 state => exact State.moves_requeueAway hr hl (.inl state)
        case h_2 state => exact State.moves_requeueAway hr hl (.inr (.inl state))
        case h_3 state =>
          split
          next normal =>
            rw [List.contains_iff_mem] at normal
            exact State.moves_classMove hr hl state normal rfl
          · exact .refl g l s
        all_goals exact .refl g l s
      · exact .refl g l s

/-- ABANDON is handed and the attempt fails (R97). -/
theorem State.moves_abandonFail {x : Record} {w : FailReason} (hr : s.record? h = some r) (hl : r.line = l)
    (state : r.state = .negotiating) (line : x.line = r.line) (down : w = .noCarrier → x.carrier = .down)
    (m : ∀ u, Record.Fails s.env x u → Record.Moves g s.env r u) :
    State.Moves g l s (((s.putRecord h x).sendAbandon x).failAttempt h w) := by
  have sent : State.Moves g l s (s.sendAbandon x) := State.moves_sendAbandon g l s x
  refine sent.trans (State.moves_fail (s := s.sendAbandon x) hr hl state line down fun u f => ?_)
  rw [sent.env] at f ⊢
  exact m u f

/-! ### Changes of the table -/

/-- What record moves, a success and a creation keep, a turn of a slot keeps. -/
theorem Slot.Turn.keep {b : Prop} {e : Env} {x y : Slot} {P : Record → Prop} (a : Slot.Turn g b e x y)
    (move : ∀ r u, P r → Record.Move g e r u → P u) (success : ∀ k r, r.Confirms k → P r → P (Record.succeeded e k r))
    (creation : ∀ l st r, Record.Created b e l st r → P r) (before : ∀ r, x.body = .live r → P r) :
    ∀ u, y.body = .live u → P u := by
  intro u hu
  cases a with
  | moves ep m =>
    cases hx : x.body with
    | live r =>
      rw [hx] at m
      obtain ⟨v, hv, n⟩ := m
      cases hu.symm.trans hv
      exact n.keep move (before r hx)
    | free | vacated =>
      rw [hx, hu] at m
      cases m
  | agrees r v k ep old new confirms moves =>
    cases hu.symm.trans new
    exact moves.keep move (success k r confirms (before r old))
  | creates l st r v ep old new created moves =>
    cases hu.symm.trans new
    exact moves.keep move (creation l st r created)
  | leaves r c ep old new set => cases hu.symm.trans new
  | clears ep new => cases hu.symm.trans new
  | acknowledges l st c d ep old new set => cases hu.symm.trans new

/-- A turn of a slot keeps the fit of its record (R81, R100, R117). -/
theorem Slot.Turn.fits {b : Prop} {e : Env} {x y : Slot} (a : Slot.Turn True b e x y)
    (before : ∀ r, x.body = .live r → r.Fits e) : ∀ u, y.body = .live u → u.Fits e :=
  a.keep (fun _ _ => Record.Move.fits) (fun k r _ _ => Record.fits_succeeded e e k r) (fun _ _ _ => Record.Created.fits) before

/-- The turn of one slot, with a change of its line's arbiter. -/
theorem State.Change.ofSlot (env : t.env = s.env) (lines : t.lines = s.lines)
    (others : ∀ k, k ≠ h → t.slots[k] = s.slots[k]) (turn : Slot.Turn g s.LinesBound s.env s.slots[h] t.slots[h])
    (keys : s.KeysUnique → s.QuotasOk → t.KeysUnique ∧ t.QuotasOk)
    (queues : g → s.QueuesOk → t.QueuesOk ∧ ∀ k : LineId, k ≠ l → t.arbiters[k] = s.arbiters[k]) : State.Change g l s t where
  slots k := by
    rw [env]
    by_cases hk : k = h
    · subst hk; exact turn
    · rw [others k hk]
      exact .moves rfl (.refl _ _ _)
  lines k := by rw [lines]
  keys := keys
  queues := queues
  fits hg _ fit k u hu := by
    rw [env]
    by_cases hk : k = h
    · subst hk
      cases eq_true hg
      exact turn.fits (fun r hr => fit k r (s.record?_of_body hr)) u (t.body_of_record? hu)
    · exact fit k u ((State.record?_congr s (others k hk)) ▸ hu)

/-- Keys and quotas when at most one record is lost or changes but for its key. -/
theorem State.keys_kept (lines : t.lines = s.lines) (others : ∀ k, k ≠ h → t.slots[k] = s.slots[k])
    (own : ∀ u, t.record? h = some u → ∃ r, s.record? h = some r ∧ r.SameKey u) :
    s.KeysUnique → s.QuotasOk → t.KeysUnique ∧ t.QuotasOk := by
  refine State.keys_shrink (fun k u hu => ?_) fun k => by rw [lines]
  by_cases hk : k = h
  · subst hk; exact own u hu
  · exact ⟨u, (State.record?_congr s (others k hk)) ▸ hu, rfl, rfl⟩

/-- An attempt that succeeds, up to its post-agreement check (R95). -/
theorem State.change_succeeded {k : Step} (hr : s.record? h = some r) (hl : r.line = l) (confirms : r.Confirms k) :
    State.Change g l s ((s.releaseGrant r.line).putRecord h (Record.succeeded s.env k r)) := by
  subst hl
  have others : ∀ j, j ≠ h → ((s.releaseGrant r.line).putRecord h (Record.succeeded s.env k r)).slots[j] = s.slots[j] :=
    fun j hj => (s.releaseGrant r.line).slot_setBody_other (Ne.symm hj) _
  have own : ((s.releaseGrant r.line).putRecord h (Record.succeeded s.env k r)).slots[h] =
      { s.slots[h] with body := .live (Record.succeeded s.env k r) } :=
    (s.releaseGrant r.line).slot_setBody_same h _
  have eq := Record.succeeded_eq s.env k r
  refine .ofSlot (h := h) rfl rfl others ?_ (State.keys_kept rfl others fun u hu => ⟨r, hr, ?_⟩) fun _ q =>
    ⟨?_, fun j hj => s.arbiter_releaseGrant_other hj⟩
  · rw [own]
    exact .agrees r _ k rfl (s.body_of_record? hr) rfl confirms .refl
  · rw [State.record?_putRecord_same] at hu
    cases hu
    rw [eq]
    exact ⟨rfl, rfl⟩
  · refine q.release hr (Record.seat_grant.2 confirms.state) (fun u hu => ?_) (fun j hj => State.record?_congr _ (others j hj)) rfl
    rw [State.record?_putRecord_same] at hu
    cases hu
    rw [eq]
    exact ⟨rfl, rfl⟩

end

end Sys2Proof.Machine
end


section
/-! Records that enter and leave the table: the slot an admission chooses, the record it creates, and the leaving step (R14 to R22). -/

namespace Sys2Proof.Machine

/-! ### The slot an admission chooses -/

theorem State.chooseSlot_of_chooses {s : State} {h : Handle} (c : s.chooses h) : s.chooseSlot = some h := by
  unfold State.chooseSlot
  obtain ⟨free, below⟩ | ⟨full, vacated, below⟩ := c
  · rw [find_handle_some.2 ⟨free, below⟩, Option.some_or]
  · rw [find_handle_none.2 full, Option.none_or]
    exact find_handle_some.2 ⟨vacated, below⟩

theorem State.chooseSlot_of_live {s : State} (live : ∀ h : Handle, s.slots[h].body.isLive = true) : s.chooseSlot = none := by
  have held : ∀ h : Handle, ∃ r, s.slots[h].body = .live r := fun h => by
    have := live h
    cases e : s.slots[h].body with
    | live r => exact ⟨r, rfl⟩
    | free | vacated => rw [e] at this; cases this
  have free : ∀ h : Handle, s.slots[h].body.isFree = false := fun h => by
    obtain ⟨r, e⟩ := held h
    rw [e]; rfl
  have vacated : ∀ h : Handle, s.slots[h].body.isVacated = false := fun h => by
    obtain ⟨r, e⟩ := held h
    rw [e]; rfl
  unfold State.chooseSlot
  rw [find_handle_none.2 free, find_handle_none.2 vacated]
  rfl

theorem State.notLive_of_chooseSlot {s : State} {h : Handle} (e : s.chooseSlot = some h) : s.slots[h].body.isLive = false := by
  unfold State.chooseSlot at e
  have chosen : s.slots[h].body.isFree = true ∨ s.slots[h].body.isVacated = true := by
    obtain e | ⟨-, e⟩ := Option.or_eq_some_iff.1 e
    · exact .inl (find_handle_some.1 e).1
    · exact .inr (find_handle_some.1 e).1
  cases hb : s.slots[h].body <;> rw [hb] at chosen
  case live => rcases chosen with c | c <;> cases c
  all_goals rfl

/-! ### The record an admission creates -/

/-- The record of an admission: WAITING or PARKED by its line, with STATE and, for a line-born one, REMOTE recorded (R17, R18). -/
def State.admitted (s : State) (l : LineId) (st : Station) (p : Fin 16) (mask : Option StepSet) (c : Cause) : Record :=
  createdRecord l st p mask (if s.lineIsUp l then .waiting else .parked) c
    (recorded 0 (if mask.isSome then kindState ||| kindRemote else kindState) (s.profileOf p))

/-- What becomes of an admission, by its tests (R16, R17, R19). -/
theorem State.place_eq (s : State) (l : LineId) (st : Station) (p : Fin 16) (mask : Option StepSet) {c : Cause}
    (normal : c.isUrgent = false) : s.place l st p mask c =
      if s.lines[l].quota ≤ s.liveCount l then .overQuota
      else match s.chooseSlot with
        | none => .tableFull
        | some h => .placed h (s.created h (s.admitted l st p mask c)) := by
  unfold State.place
  split
  · rfl
  · cases s.chooseSlot with
    | none => rfl
    | some h =>
      dsimp only
      have record : (if mask.isSome = true then Record.note (s.profileOf p) kindRemote
            (Record.note (s.profileOf p) kindState (newRecord l st p mask (s.firstState l) c))
          else Record.note (s.profileOf p) kindState (newRecord l st p mask (s.firstState l) c)) =
          s.admitted l st p mask c := by
        cases mask with
        | none => rfl
        | some m =>
          simp only [Option.isSome_some, if_true, State.admitted, Record.note_eq, newRecord, createdRecord,
            recorded_recorded, State.firstState]
      rw [record]
      unfold State.allocate State.created
      have line : (s.admitted l st p mask c).line = l := rfl
      rw [line]
      cases s.slots[h].body.isVacated <;> cases s.lineIsUp l <;>
        simp [Arbiter.join, normal, Epoch.next, State.setNoticeLost, State.modArbiter]

section
variable {g : Prop} {l : LineId} {s t u : State} {h : Handle} {r : Record}

theorem State.created_eq (s : State) (h : Handle) (r : Record) : s.created h r = { s with
    slots := s.slots.set h { epoch := Epoch.next s.slots[h].epoch, body := .live r }
    arbiters := if s.lineIsUp r.line then (s.modArbiter r.line fun a => { a with normal := a.normal ++ [h] }).arbiters
      else s.arbiters
    flags := { s.flags with noticeLost := s.flags.noticeLost || s.slots[h].body.isVacated } } := by
  unfold State.created
  cases s.lineIsUp r.line <;> rfl

theorem State.slot_created_same (s : State) (h : Handle) (r : Record) :
    (s.created h r).slots[h] = { epoch := Epoch.next s.slots[h].epoch, body := .live r } := by
  rw [State.created_eq]
  simp

theorem State.slot_created_other {k : Handle} (hk : k ≠ h) : (s.created h r).slots[k] = s.slots[k] := by
  have : h.val ≠ k.val := fun e => hk (Fin.ext e.symm)
  rw [State.created_eq]
  simp [this]

theorem State.created_arbiters (s : State) (h : Handle) (r : Record) : (s.created h r).arbiters =
    if s.lineIsUp r.line then (s.modArbiter r.line fun a => { a with normal := a.normal ++ [h] }).arbiters else s.arbiters := by
  rw [State.created_eq]

theorem State.env_created (s : State) (h : Handle) (r : Record) : (s.created h r).env = s.env := by
  rw [State.created_eq]
  rfl

theorem State.lines_created (s : State) (h : Handle) (r : Record) : (s.created h r).lines = s.lines := by
  rw [State.created_eq]

theorem State.record?_created_same (s : State) (h : Handle) (r : Record) : (s.created h r).record? h = some r :=
  State.record?_of_body _ (by rw [State.slot_created_same])

theorem State.record?_created_other {k : Handle} (hk : k ≠ h) : (s.created h r).record? k = s.record? k :=
  State.record?_congr _ (State.slot_created_other hk)

/-- A count grows by one at most, where one more handle counts. -/
theorem countP_le_succ {f f' : Handle → Bool} {h : Handle} (one : ∀ k, f' k = true → f k = true ∨ k = h) :
    (List.finRange 256).countP f' ≤ (List.finRange 256).countP f + 1 := by
  have both : ∀ xs : List Handle, xs.countP f' ≤ xs.countP f + xs.count h := by
    intro xs
    induction xs with
    | nil => simp
    | cons k xs ih =>
      have := one k
      simp only [List.countP_cons, List.count_cons]
      by_cases hk : f' k = true
      · rcases this hk with hf | rfl
        · simp only [hk, hf, if_true]; omega
        · simp only [hk, if_true, beq_self_eq_true]; omega
      · simp only [hk, Bool.false_eq_true, if_false]; omega
  have once := List.nodup_iff_count_le_one.1 (List.nodup_finRange 256) h
  have := both (List.finRange 256)
  omega

/-- A new record keeps keys unique and counts within their quotas, when its key is new and its line has room (R12, R13). -/
theorem State.keys_created (empty : s.slots[h].body.isLive = false) (fresh : s.findKey r.line r.station = none)
    (room : s.liveCount r.line < s.lines[r.line].quota) (unique : s.KeysUnique) (quotas : s.QuotasOk) :
    (s.created h r).KeysUnique ∧ (s.created h r).QuotasOk := by
  have fresh := State.findKey_none.1 fresh
  constructor
  · refine State.keysUnique_iff.2 fun j k a b ha hb line station => ?_
    by_cases hj : j = h
    · subst hj
      by_contra hk
      rw [State.record?_created_same] at ha
      cases ha
      rw [State.record?_created_other (Ne.symm hk)] at hb
      exact fresh k b hb ⟨line, station⟩
    · rw [State.record?_created_other hj] at ha
      by_cases hk : k = h
      · subst hk
        rw [State.record?_created_same] at hb
        cases hb
        exact absurd ⟨line.symm, station.symm⟩ (fresh j a ha)
      · rw [State.record?_created_other hk] at hb
        exact State.keysUnique_iff.1 unique j k a b ha hb line station
  · intro k
    rw [State.lines_created]
    by_cases hk : k = r.line
    · subst hk
      refine le_trans (countP_le_succ (h := h) fun j live => ?_) room
      by_cases hj : j = h
      · exact .inr hj
      · rw [State.slot_created_other hj] at live
        exact .inl live
    · refine le_trans (List.countP_mono_left fun j _ live => ?_) (quotas k)
      by_cases hj : j = h
      · subst hj
        rw [State.slot_created_same] at live
        obtain ⟨v, hv, line⟩ := SlotBody.isLiveOf_iff.1 live
        cases hv
        exact absurd line.symm hk
      · rw [State.slot_created_other hj] at live
        exact live

/-- Seats where no record changes. -/
theorem State.QueuesOk.same (q : s.QueuesOk) (records : ∀ k, t.record? k = s.record? k) (arbiters : t.arbiters = s.arbiters) :
    t.QueuesOk :=
  ⟨fun l => by rw [arbiters]; exact q.nodup l, fun l k => by rw [arbiters, records k]; exact q.seats l k⟩

/-- Seats where one record without a seat comes, goes or changes. -/
theorem State.QueuesOk.away (q : s.QueuesOk) (old : ∀ r ∈ s.record? h, r.seat = .away) (new : ∀ r ∈ t.record? h, r.seat = .away)
    (records : ∀ k, k ≠ h → t.record? k = s.record? k) (arbiters : t.arbiters = s.arbiters) : t.QueuesOk := by
  refine ⟨fun l => by rw [arbiters]; exact q.nodup l, fun l k => ?_⟩
  rw [arbiters]
  by_cases hk : k = h
  · subst hk
    exact (Arbiter.seats_away new).2 ((Arbiter.seats_away old).1 (q.seats l k))
  · rw [records k hk]
    exact q.seats l k

/-- A record is created in an empty slot (R17, R18). -/
theorem State.change_created {p : Fin 16} {mask : Option StepSet} {c : Cause} {st : Station} (normal : c.isUrgent = false)
    (chosen : s.chooseSlot = some h) (fresh : s.findKey l st = none) (room : s.liveCount l < s.lines[l].quota)
    (valid : s.LinesBound → s.isValid p = true) : State.Change g l s (s.created h (s.admitted l st p mask c)) := by
  have empty := State.notLive_of_chooseSlot chosen
  have noRecord : s.record? h = none := by
    unfold State.record?
    cases hb : s.slots[h].body with
    | live r => rw [hb] at empty; cases empty
    | free | vacated => rfl
  refine .ofSlot (h := h) (s.env_created h _) (s.lines_created h _) (fun k hk => State.slot_created_other hk) ?_
    (State.keys_created empty fresh room) fun _ q => ⟨?_, fun k hk => ?_⟩
  · rw [State.slot_created_same]
    refine .creates l st (s.admitted l st p mask c) _ rfl empty rfl (.mk p valid mask c _ ?_) .refl
    split <;> decide
  · cases up : s.lineIsUp l with
    | true =>
      refine q.join (h := h) (c := c) (l := l) (by simp [noRecord]) (State.record?_created_same s h _) rfl
        (Record.seat_of_waiting ?_ rfl) (fun k hk => State.record?_created_other hk) ?_
      · show (if s.lineIsUp l then RecState.waiting else RecState.parked) = .waiting
        rw [up]; rfl
      · rw [State.created_arbiters]
        have line : (s.admitted l st p mask c).line = l := rfl
        simp only [line, up, if_true, State.modArbiter_arbiters, Arbiter.join, normal, Bool.false_eq_true, if_false]
    | false =>
      refine q.away (h := h) (by simp [noRecord]) (fun u hu => ?_) (fun k hk => State.record?_created_other hk) ?_
      · rw [State.record?_created_same] at hu
        cases hu
        show Record.seat { s.admitted l st p mask c with state := if s.lineIsUp l then .waiting else .parked } = .away
        rw [up]; rfl
      · rw [State.created_arbiters]
        have line : (s.admitted l st p mask c).line = l := rfl
        rw [line, up]; rfl
  · rw [State.created_arbiters]
    have line : (s.admitted l st p mask c).line = l := rfl
    rw [line]
    split
    · exact s.arbiter_modArbiter_other (Ne.symm hk) _
    · rfl

/-! ### Leaving -/

/-- What a record that leaves its line puts into its slot: nothing, its own changes, or itself away from the arbiter (R22, R127). -/
structure Slot.Leaves (g : Prop) (e : Env) (x : Slot) (r : Record) (b : SlotBody) : Prop where
  turn : ∀ c, Slot.Turn g c e x { x with body := b }
  own : ∀ u, b = .live u → r.SameKey u ∧ u.seat = .away

theorem State.change_setBody {b : SlotBody} (hr : s.record? h = some r) (leaves : Slot.Leaves g s.env s.slots[h] r b)
    (o : t = { s with slots := (s.setBody h b).slots, arbiters := t.arbiters })
    (queues : g → s.QueuesOk → t.QueuesOk ∧ ∀ k : LineId, k ≠ l → t.arbiters[k] = s.arbiters[k]) : State.Change g l s t := by
  have slots : t.slots = (s.setBody h b).slots := by rw [o]
  have lines : t.lines = s.lines := by rw [o]
  have own : t.slots[h] = { s.slots[h] with body := b } := by rw [slots]; exact s.slot_setBody_same h b
  have others : ∀ k, k ≠ h → t.slots[k] = s.slots[k] := fun k hk => by
    rw [slots]; exact s.slot_setBody_other (Ne.symm hk) b
  refine .ofSlot (h := h) (by rw [o]; rfl) lines others ?_ (State.keys_kept lines others fun u hu => ⟨r, hr, ?_⟩) queues
  · rw [own]; exact leaves.turn _
  · have := t.body_of_record? hu
    rw [own] at this
    exact (leaves.own u this).1

/-- A record detached from its line (Table 8-1) and put aside in its slot. -/
theorem State.change_detached {b : SlotBody} (hr : s.record? h = some r) (hl : r.line = l)
    (leaves : Slot.Leaves g s.env s.slots[h] r b) : State.Change g l s ((s.detach h r).setBody h b) := by
  subst hl
  have records : ∀ {v : State}, v.slots = (s.setBody h b).slots → ∀ k, k ≠ h → v.record? k = s.record? k := fun hv k hk =>
    State.record?_congr s (by rw [hv]; exact s.slot_setBody_other (Ne.symm hk) b)
  have new : ∀ {v : State}, v.slots = (s.setBody h b).slots → ∀ u ∈ v.record? h, u.line = r.line ∧ u.seat = .away := by
    intro v hv u hu
    have body := v.body_of_record? hu
    rw [hv, s.slot_setBody_same h b] at body
    obtain ⟨key, away⟩ := leaves.own u body
    exact ⟨key.1, away⟩
  have aside : r.seat = .away → State.Change g r.line s (s.setBody h b) := fun away =>
    State.change_setBody hr leaves rfl fun _ q =>
      ⟨q.away (h := h) (by simp [hr, away]) (fun u hu => (new rfl u hu).2) (records rfl) rfl, fun _ _ => rfl⟩
  have sent : ∀ v : State, State.Moves g r.line v (v.sendAbandon r) := fun v => State.moves_sendAbandon g _ v r
  unfold State.detach
  split
  case h_1 state =>
    have freed : State.Change g r.line s ((s.releaseGrant r.line).setBody h b) :=
      State.change_setBody hr leaves rfl fun _ q =>
        ⟨q.release hr (Record.seat_grant.2 state) (new rfl) (records rfl) rfl, fun k hk => s.arbiter_releaseGrant_other hk⟩
    exact freed.andThen (sent _)
  case h_2 state =>
    exact State.change_setBody hr leaves rfl fun _ q =>
      ⟨q.leave hr state (new rfl) (records rfl) rfl, fun k hk => s.arbiter_modArbiter_other (Ne.symm hk) _⟩
  case h_3 state => exact (aside (by rw [Record.seat_away, state]; decide)).andThen (sent _)
  case h_4 state => exact (aside (by rw [Record.seat_away, state]; decide)).andThen (sent _)
  all_goals
    next state => exact aside (by rw [Record.seat_away, state]; decide)

/-- The slot of a record that has left the table (R22). -/
def Record.left (p : Profile) (r : Record) : SlotBody :=
  if recorded r.changes kindRetired p = 0 then .free else .vacated r.line r.station (recorded r.changes kindRetired p)

theorem State.leaveTable_eq (hr : s.record? h = some r) : s.leaveTable h = s.setBody h (Record.left (s.profileOf r.profile) r) := by
  unfold State.leaveTable
  rw [hr]
  rfl

theorem State.leaveTable_putRecord (s : State) (h : Handle) (r : Record) :
    (s.putRecord h r).leaveTable h = s.setBody h (Record.left (s.profileOf r.profile) r) := by
  rw [State.leaveTable_eq (State.record?_putRecord_same s h r)]
  unfold State.putRecord State.setBody
  simp
  rfl

/-- A record leaves the table from its slot, whatever its last event made of its change set. -/
theorem Record.leaves_left {e : Env} {x : Slot} {p : Profile} {v : Record} (old : x.body = .live r) (key : r.SameKey v) :
    Slot.Leaves g e x r (Record.left p v) := by
  unfold Record.left
  split
  · exact ⟨fun _ => .clears rfl rfl, fun _ hu => SlotBody.noConfusion hu⟩
  next set => exact ⟨fun _ => .leaves r _ rfl old (by rw [key.1, key.2]) set, fun _ hu => SlotBody.noConfusion hu⟩

/-- A record that enters RETIRING (R127). -/
theorem Record.leaves_retiring {e : Env} {x : Slot} {u : Record} (old : x.body = .live r) (m : Record.Move g e r u)
    (state : u.state = .retiring) : Slot.Leaves g e x r (.live u) := by
  refine ⟨fun _ => .moves rfl (by rw [old]; exact ⟨u, rfl, .single m⟩), fun v hv => ?_⟩
  cases hv
  exact ⟨m.sameKey, by rw [Record.seat_away, state]; decide⟩

end

end Sys2Proof.Machine
end


section
/-! A line that leaves UP or becomes UP, and its records after it (R68, R115 to R118). -/

namespace Sys2Proof.Machine

/-- Visits of the slots in ascending order, each of which changes its own slot alone, by the body it finds there. -/
theorem State.forHandles_slot {s : State} {f : Handle → State → State} {F : SlotBody → SlotBody} {P : State → Prop}
    (start : P s) (keep : ∀ h t, P t → P (f h t)) (own : ∀ h t, P t → (f h t).slots[h] = { t.slots[h] with body := F t.slots[h].body })
    (others : ∀ h t k, P t → k ≠ h → (f h t).slots[k] = t.slots[k]) (h : Handle) :
    (s.forHandles f).slots[h] = { s.slots[h] with body := F s.slots[h].body } := by
  have visits : ∀ (xs : List Handle) (t : State), xs.Nodup → P t →
      (h ∉ xs → (xs.foldl (fun s h => f h s) t).slots[h] = t.slots[h]) ∧
      (h ∈ xs → (xs.foldl (fun s h => f h s) t).slots[h] = { t.slots[h] with body := F t.slots[h].body }) := by
    intro xs
    induction xs with
    | nil => exact fun t _ _ => ⟨fun _ => rfl, fun hm => absurd hm (List.not_mem_nil)⟩
    | cons k xs ih =>
      intro t nodup ht
      obtain ⟨new, nodup⟩ := List.nodup_cons.1 nodup
      obtain ⟨out, inside⟩ := ih (f k t) nodup (keep k t ht)
      rw [List.foldl_cons]
      refine ⟨fun hm => ?_, fun hm => ?_⟩
      · obtain ⟨hk, hx⟩ := not_or.1 (fun c => hm (List.mem_cons.2 c))
        rw [out hx, others k t h ht hk]
      · by_cases hk : h = k
        · subst hk
          rw [out new, own h t ht]
        · rw [inside ((List.mem_cons.1 hm).resolve_left hk), others k t h ht hk]
  exact (visits _ s (List.nodup_finRange 256) start).2 (List.mem_finRange h)

/-! ### Leaving UP -/

/-- The treatment of one slot when a line leaves UP (Table 7-4). -/
def SlotBody.lineLeftUp (s : State) (l : LineId) : SlotBody → SlotBody
  | .live r => .live (if r.line = l then Record.lineLeftUp s r else r)
  | b => b

section
variable {g : Prop} {l : LineId} {s t u : State} {h : Handle} {r : Record}

/-- One slot, when a line leaves UP. -/
def State.leaveVisit (l : LineId) (h : Handle) (s : State) : State := match s.record? h with
  | none => s
  | some r => if r.line = l then s.putRecord h (Record.lineLeftUp s r) else s

theorem State.lineLeavesUp_eq (s : State) (l : LineId) :
    s.lineLeavesUp l = (s.forHandles (State.leaveVisit l)).modArbiter l fun _ => Arbiter.reset := rfl

/-- The visit of a slot changes slots alone, by the profiles and the time of the state before. -/
theorem State.leaveVisit_frame {s t : State} (e : t = { s with slots := t.slots }) (l : LineId) (h : Handle) :
    t.leaveVisit l h = { s with slots := (t.leaveVisit l h).slots } := by
  unfold State.leaveVisit
  split
  · exact e
  · split
    · rw [e]; rfl
    · exact e

theorem State.leaveVisit_slot {s t : State} (e : t = { s with slots := t.slots }) (l : LineId) (h : Handle) :
    (t.leaveVisit l h).slots[h] = { t.slots[h] with body := SlotBody.lineLeftUp s l t.slots[h].body } := by
  unfold State.leaveVisit
  split
  next none =>
    cases hb : t.slots[h].body with
    | live r => exact absurd (none.symm.trans (t.record?_of_body hb)) nofun
    | free => exact (congrArg (Slot.mk _) hb :)
    | vacated => exact (congrArg (Slot.mk _) hb :)
  next r hr =>
    have hb := t.body_of_record? hr
    have same : Record.lineLeftUp t r = Record.lineLeftUp s r := by rw [e]; rfl
    rw [hb, SlotBody.lineLeftUp]
    split
    · rw [State.putRecord, State.slot_setBody_same, same]
    · rw [← hb]

theorem State.leaveVisit_other (s : State) (l : LineId) {k : Handle} (hk : k ≠ h) :
    (s.leaveVisit l h).slots[k] = s.slots[k] := by
  unfold State.leaveVisit
  split
  · rfl
  · split
    · exact s.slot_setBody_other (Ne.symm hk) _
    · rfl

theorem State.slot_lineLeavesUp (s : State) (l : LineId) (h : Handle) :
    (s.lineLeavesUp l).slots[h] = { s.slots[h] with body := SlotBody.lineLeftUp s l s.slots[h].body } := by
  rw [State.lineLeavesUp_eq, State.modArbiter_slots]
  exact State.forHandles_slot (f := State.leaveVisit l) (P := fun t => t = { s with slots := t.slots }) rfl
    (fun k _ e => State.leaveVisit_frame e l k) (fun k _ e => State.leaveVisit_slot e l k)
    (fun _ t _ _ hj => t.leaveVisit_other l hj) h

theorem State.lineLeavesUp_frame (s : State) (l : LineId) : s.lineLeavesUp l = { s with
    slots := (s.lineLeavesUp l).slots, arbiters := s.arbiters.set l Arbiter.reset } := by
  have visits := s.forHandles_induction (P := fun t => t = { s with slots := t.slots }) (f := State.leaveVisit l)
    (fun h _ e => State.leaveVisit_frame e l h) rfl
  rw [State.lineLeavesUp_eq]
  generalize s.forHandles (State.leaveVisit l) = t at visits ⊢
  rw [visits]
  rfl

/-- A record of a line that is not UP, after the treatment (R115, R117). -/
theorem Record.lineLeftUp_fits {e : Env} (s : State) (r : Record) (down : e.up r.line = false) : (Record.lineLeftUp s r).Fits e := by
  obtain ⟨-, eq⟩ | ⟨-, eq⟩ | ⟨-, eq⟩ | ⟨-, eq⟩ | ⟨state, eq⟩ := Record.lineLeftUp_cases s r <;> rw [eq]
  case inr.inr.inr.inr => rcases state with st | st | st | st <;> simp [Record.Fits, st, down]
  all_goals simp [Record.Fits, Record.heldOver, Record.enter_eq, Record.dropAgreed_eq, down]

theorem Record.seat_lineLeftUp (s : State) (r : Record) : (Record.lineLeftUp s r).seat = .away := by
  rw [Record.seat_away]
  obtain ⟨-, eq⟩ | ⟨-, eq⟩ | ⟨-, eq⟩ | ⟨-, eq⟩ | ⟨state, eq⟩ := Record.lineLeftUp_cases s r <;> rw [eq]
  case inr.inr.inr.inr => rcases state with st | st | st | st <;> rw [st] <;> decide
  all_goals simp [Record.heldOver, Record.enter_eq]

/-- A record of the table after the treatment was there before, moved where it is of the line. -/
theorem State.record?_lineLeavesUp (hu : (s.lineLeavesUp l).record? h = some r) :
    ∃ x, s.record? h = some x ∧ r = if x.line = l then Record.lineLeftUp s x else x := by
  have body := State.body_of_record? _ hu
  rw [State.slot_lineLeavesUp] at body
  cases hb : s.slots[h].body with
  | live x =>
    rw [hb] at body
    injection body with body
    exact ⟨x, s.record?_of_body hb, body.symm⟩
  | free | vacated =>
    rw [hb] at body
    cases body

theorem State.record?_lineLeavesUp_of (hr : s.record? h = some r) :
    (s.lineLeavesUp l).record? h = some (if r.line = l then Record.lineLeftUp s r else r) :=
  State.record?_of_body _ (by rw [State.slot_lineLeavesUp, s.body_of_record? hr]; rfl)

theorem State.lines_lineLeavesUp (s : State) (l : LineId) : (s.lineLeavesUp l).lines = s.lines := by
  rw [State.lineLeavesUp_frame]

theorem State.env_lineLeavesUp (s : State) (l : LineId) : (s.lineLeavesUp l).env = s.env := by
  refine State.env_congr ?_ ?_ ?_ fun k => ?_
  · rw [State.lineLeavesUp_frame]
  · rw [State.lineLeavesUp_frame]
  · rw [State.lineLeavesUp_frame]
  · rw [State.lineIsUp, State.lines_lineLeavesUp]; rfl

theorem State.arbiter_lineLeavesUp (s : State) (l k : LineId) :
    (s.lineLeavesUp l).arbiters[k] = if l = k then Arbiter.reset else s.arbiters[k] := by
  rw [State.lineLeavesUp_frame]
  exact s.arbiter_modArbiter l k fun _ => Arbiter.reset

/-- A line's moves ask for the time and the VALID profiles alone. -/
theorem Line.Move.congr {e e' : Env} (now : e'.now = e.now) (valid : e'.valid = e.valid) {x y : Line} (m : Line.Move e x y) :
    Line.Move e' x y := by
  cases m with
  | send f room => exact .send f room
  | note k => exact .note k
  | frame st known => exact now ▸ .frame st known
  | ceiling k => exact .ceiling k
  | run n bound => exact .run n bound
  | lose => exact .lose
  | config quota mode p keepalive most ok least longest => exact .config quota mode p keepalive most (by rw [valid]; exact ok) least longest
  | acknowledge c => exact .acknowledge c
  | resetEngine => exact now ▸ .resetEngine
  | begin => exact .begin
  | found => exact .found

theorem Line.Moves.congr {e e' : Env} (now : e'.now = e.now) (valid : e'.valid = e.valid) {x y : Line} (m : Line.Moves e x y) :
    Line.Moves e' x y := by
  induction m with
  | refl => exact .refl
  | tail _ b ih => exact ih.tail (b.congr now valid)

/-- The lines after the move of one. -/
theorem State.lines_modLine {f : Line → Line} (m : Line.Moves s.env s.lines[l] (f s.lines[l])) (k : LineId) :
    Line.Moves (s.modLine l f).env s.lines[k] (s.modLine l f).lines[k] := by
  rw [State.line_modLine]
  split
  next e => subst e; exact Line.Moves.congr (e := s.env) (e' := (s.modLine l f).env) rfl rfl m
  · exact .refl

theorem State.quota_modLine {f : Line → Line} (quota : (f s.lines[l]).quota = s.lines[l].quota) (k : LineId) :
    (s.modLine l f).lines[k].quota = s.lines[k].quota := by
  rw [State.line_modLine]
  split
  next e => subst e; exact quota
  · rfl

theorem State.QueuesOk.modLine (q : s.QueuesOk) (l : LineId) (f : Line → Line) : (s.modLine l f).QueuesOk := ⟨q.nodup, q.seats⟩

theorem State.lineIsUp_modLine_other {f : Line → Line} {k : LineId} (hk : k ≠ l) :
    (s.modLine l f).lineIsUp k = s.lineIsUp k := by
  unfold State.lineIsUp
  rw [State.line_modLine_other _ (Ne.symm hk)]

theorem State.QueuesOk.lineLeavesUp (q : s.QueuesOk) (l : LineId) : (s.lineLeavesUp l).QueuesOk := by
  refine ⟨fun k => ?_, fun k h => ?_⟩
  · rw [State.arbiter_lineLeavesUp]
    split
    · exact List.nodup_nil
    · exact q.nodup k
  · rw [State.arbiter_lineLeavesUp]
    have seat : ∀ x ∈ (s.lineLeavesUp l).record? h, x.line = l → x.seat = .away := by
      intro x hx hl
      obtain ⟨r, -, rfl⟩ := State.record?_lineLeavesUp hx
      split
      · exact Record.seat_lineLeftUp s r
      next other => rw [if_neg other] at hl; exact absurd hl other
    split
    next e =>
      subst e
      have nobody : ∀ place, place ≠ Seat.away → ¬∃ r ∈ (s.lineLeavesUp l).record? h, r.line = l ∧ r.seat = place :=
        fun place hp ⟨r, hr, hl, hs⟩ => hp (hs.symm.trans (seat r hr hl))
      exact ⟨by simpa [Arbiter.reset] using nobody .grant, by simpa [Arbiter.reset] using nobody .urgent,
        by simpa [Arbiter.reset] using nobody .normal⟩
    next hk =>
      have same : ∀ place, (∃ x ∈ (s.lineLeavesUp l).record? h, x.line = k ∧ x.seat = place) ↔
          ∃ r ∈ s.record? h, r.line = k ∧ r.seat = place := by
        intro place
        constructor
        · rintro ⟨x, hx, line, seat⟩
          obtain ⟨r, hr, rfl⟩ := State.record?_lineLeavesUp hx
          split at line
          next hl => exact absurd (hl.symm.trans ((Record.sameKey_lineLeftUp s r).1.symm.trans line)) hk
          next hl =>
            rw [if_neg hl] at seat
            exact ⟨r, hr, line, seat⟩
        · rintro ⟨r, hr, line, seat⟩
          have hl : ¬r.line = l := fun hl => hk (hl.symm.trans line)
          exact ⟨r, by rw [State.record?_lineLeavesUp_of hr, if_neg hl]; rfl, line, seat⟩
      obtain ⟨grant, urgent, normal⟩ := q.seats k h
      exact ⟨grant.trans (same _).symm, urgent.trans (same _).symm, normal.trans (same _).symm⟩

/-- A line that is not UP any more, and the treatment of its records (R68, R77, R115, R116). -/
theorem State.change_leavesUp {f : Line → Line} (down : (f s.lines[l]).state ≠ .up) (quota : (f s.lines[l]).quota = s.lines[l].quota)
    (m : Line.Moves s.env s.lines[l] (f s.lines[l])) : State.Change g l s ((s.modLine l f).lineLeavesUp l) := by
  have env := State.env_lineLeavesUp (s.modLine l f) l
  have notUp : (s.modLine l f).lineIsUp l = false := by
    simp only [State.lineIsUp, State.line_modLine_same, decide_eq_false_iff_not]
    exact down
  have lines := State.lines_lineLeavesUp (s.modLine l f) l
  exact {
    slots := fun h => by
      rw [State.slot_lineLeavesUp, env, State.modLine_slots]
      refine .moves rfl ?_
      cases s.slots[h].body with
      | live r =>
        refine ⟨_, rfl, ?_⟩
        split
        next hl => exact .single (.lineLeftUp _ rfl (by rw [hl]; exact notUp))
        · exact .refl
      | free | vacated => rfl
    lines := fun k => by rw [env, lines]; exact State.lines_modLine m k
    keys := State.keys_shrink (fun h x hx => by
      obtain ⟨r, hr, rfl⟩ := State.record?_lineLeavesUp hx
      refine ⟨r, hr, ?_⟩
      split
      · exact Record.sameKey_lineLeftUp _ r
      · exact ⟨rfl, rfl⟩) fun k => by rw [lines]; exact State.quota_modLine quota k
    queues := fun _ q => ⟨State.QueuesOk.lineLeavesUp (q.modLine l f) l, fun k hk => by
      rw [State.arbiter_lineLeavesUp, if_neg (Ne.symm hk), State.modLine_arbiters]⟩
    fits := fun _ _ fit h x hx => by
      obtain ⟨r, hr, rfl⟩ := State.record?_lineLeavesUp hx
      rw [env]
      split
      next hl => exact Record.lineLeftUp_fits _ r (by rw [hl]; exact notUp)
      next hl =>
        have up : (s.modLine l f).env.up r.line = s.env.up r.line := State.lineIsUp_modLine_other hl
        have before := fit h r hr
        exact ⟨fun st => up.trans (before.1 st), fun st => up.trans (before.2 st)⟩ }

theorem State.event_leavesUp {f : Line → Line} (down : (f s.lines[l]).state ≠ .up) (quota : (f s.lines[l]).quota = s.lines[l].quota)
    (m : Line.Moves s.env s.lines[l] (f s.lines[l])) : State.Event g s ((s.modLine l f).lineLeavesUp l) :=
  (State.change_leavesUp down quota m).event fun _ _ _ _ => by
    rw [State.arbiter_lineLeavesUp, if_pos rfl]
    exact fun _ => rfl

/-! ### Becoming UP -/

/-- One slot, when a line becomes UP (R118). -/
def State.upVisit (l : LineId) (h : Handle) (s : State) : State := match s.record? h with
  | none => s
  | some r => if r.line = l ∧ r.state = .parked then s.requeue h .lineUp else s

theorem State.moves_upVisit (s : State) (l : LineId) (h : Handle) : State.Moves g l s (s.upVisit l h) := by
  unfold State.upVisit
  split
  · exact .refl g l s
  next r hr =>
    split
    next parked => exact State.moves_requeueAway hr parked.1 (.inr (.inr (.inr (.inl parked.2))))
    · exact .refl g l s

theorem State.moves_upVisits (s : State) (l : LineId) : State.Moves g l s (s.forHandles (State.upVisit l)) :=
  s.forHandles_induction (P := State.Moves g l s) (f := State.upVisit l) (fun h t m => m.trans (t.moves_upVisit l h)) (.refl g l s)

/-- The treatment of one slot when a line becomes UP. -/
def SlotBody.lineBecameUp (e : Env) (l : LineId) : SlotBody → SlotBody
  | .live r => .live (if r.line = l ∧ r.state = .parked then Record.requeued e .lineUp r else r)
  | b => b

theorem State.upVisit_slot {e : Env} (env : s.env = e) (l : LineId) (h : Handle) :
    (s.upVisit l h).slots[h] = { s.slots[h] with body := SlotBody.lineBecameUp e l s.slots[h].body } := by
  subst env
  unfold State.upVisit
  split
  next none =>
    cases hb : s.slots[h].body with
    | live r => exact absurd (none.symm.trans (s.record?_of_body hb)) nofun
    | free => exact (congrArg (Slot.mk _) hb :)
    | vacated => exact (congrArg (Slot.mk _) hb :)
  next r hr =>
    have hb := s.body_of_record? hr
    rw [hb, SlotBody.lineBecameUp]
    split
    · have own : (s.putRecord h (Record.requeued s.env .lineUp r)).slots[h] =
          { s.slots[h] with body := .live (Record.requeued s.env .lineUp r) } := s.slot_setBody_same h _
      rw [State.requeue_eq hr]
      split
      · exact own
      · exact own
    · rw [← hb]

theorem State.upVisit_other (s : State) (l : LineId) {k : Handle} (hk : k ≠ h) : (s.upVisit l h).slots[k] = s.slots[k] := by
  unfold State.upVisit
  split
  · rfl
  · split
    · exact (s.onlySlot_requeue h .lineUp).1 k hk
    · rfl

theorem State.slot_upVisits (s : State) (l : LineId) (h : Handle) :
    (s.forHandles (State.upVisit l)).slots[h] = { s.slots[h] with body := SlotBody.lineBecameUp s.env l s.slots[h].body } :=
  State.forHandles_slot (f := State.upVisit l) (P := fun t => t.env = s.env) rfl
    (fun k t e => (State.Moves.env (g := False) (t.moves_upVisit l k)).trans e) (fun k _ e => State.upVisit_slot e l k)
    (fun _ t _ _ hj => t.upVisit_other l hj) h

theorem State.record?_upVisits {x : Record} (hx : (s.forHandles (State.upVisit l)).record? h = some x) :
    ∃ r, s.record? h = some r ∧ x = if r.line = l ∧ r.state = .parked then Record.requeued s.env .lineUp r else r := by
  have body := State.body_of_record? _ hx
  rw [State.slot_upVisits] at body
  cases hb : s.slots[h].body with
  | live r =>
    rw [hb] at body
    injection body with body
    exact ⟨r, s.record?_of_body hb, body.symm⟩
  | free | vacated =>
    rw [hb] at body
    cases body

/-- A line that becomes UP, and the treatment of its records up to the hand-out (R67, R68, R118). -/
theorem State.change_becomesUp {f : Line → Line} (before : s.lines[l].state ≠ .up) (up : (f s.lines[l]).state = .up)
    (quota : (f s.lines[l]).quota = s.lines[l].quota) (m : Line.Moves s.env s.lines[l] (f s.lines[l])) :
    State.Change g l s ((s.modLine l f).forHandles (State.upVisit l)) := by
  have moves : State.Moves g l (s.modLine l f) _ := State.moves_upVisits (s.modLine l f) l
  have isUp : (s.modLine l f).env.up l = true := by
    simp only [State.env, State.lineIsUp, State.line_modLine_same, up, decide_true]
  have wasDown : s.env.up l = false := by
    simp only [State.env, State.lineIsUp, decide_eq_false_iff_not]
    exact before
  exact {
    slots := fun h => by
      rw [moves.env]
      exact .moves (moves.epoch h) (moves.body h)
    lines := fun k => by
      rw [moves.env]
      exact (State.lines_modLine m k).trans (moves.lines k)
    keys := State.keys_shrink (fun h x hx => by
      obtain ⟨r, hr, n⟩ := moves.record hx
      exact ⟨r, hr, n.sameKey⟩) fun k => (moves.quota k).trans (State.quota_modLine quota k)
    queues := fun hg q => moves.queues hg (q.modLine l f)
    fits := fun _ _ fit h x hx => by
      rw [moves.env]
      obtain ⟨r, hr, rfl⟩ := State.record?_upVisits hx
      split
      · exact Record.fits_requeued _ _ r
      next stays =>
        have old := fit h r hr
        by_cases hl : r.line = l
        · exact ⟨fun _ => by rw [hl]; exact isUp, fun parked => absurd ⟨hl, parked⟩ stays⟩
        · have same : (s.modLine l f).env.up r.line = s.env.up r.line := State.lineIsUp_modLine_other hl
          exact ⟨fun st => same.trans (old.1 st), fun st => same.trans (old.2 st)⟩ }

end

end Sys2Proof.Machine
end


section
/-! Station frames at their record, and line-born admission (R18, R19, R48 to R57, R70 to R72, R88 to R92, R102, R109 to R112). -/

namespace Sys2Proof.Machine

section
variable {g : Prop} {l : LineId} {s t u : State} {h : Handle} {r : Record}

/-- An event on a line whose environment stays ends with the hand-out of the line, or leaves the arbiters as they are. -/
def State.Ends (g : Prop) (l : LineId) (s t : State) : Prop :=
  ∃ v, State.Change g l s v ∧ v.env = s.env ∧ (t = v.handOut l ∨ (t = v ∧ v.arbiters = s.arbiters))

theorem State.Ends.event (a : State.Ends g l s t) (q : g → s.QueuesOk) : State.Event g s t := by
  obtain ⟨v, c, -, rfl | ⟨rfl, arbiters⟩⟩ := a
  · exact c.handOut q
  · exact c.quiet arbiters

theorem State.Moves.endsHandOut (m : State.Moves g l s t) : State.Ends g l s (t.handOut l) := ⟨t, m.change, m.env, .inl rfl⟩

theorem State.Moves.endsQuiet (m : State.Moves g l s t) (arbiters : t.arbiters = s.arbiters) : State.Ends g l s t :=
  ⟨t, m.change, m.env, .inr ⟨rfl, arbiters⟩⟩

theorem State.ends_refl (g : Prop) (l : LineId) (s : State) : State.Ends g l s s := (State.Moves.refl g l s).endsQuiet rfl

/-- A kind recorded for a line (R61). -/
theorem State.moves_noteLine (g : Prop) (l : LineId) (s : State) (k : LineId) (kind : BitVec 5) :
    State.Moves g l s (s.noteLine k kind) :=
  .ofLine k _ .rfl rfl (.single (.note kind))

theorem State.ends_noteLine (g : Prop) (l : LineId) (s : State) (k : LineId) (kind : BitVec 5) :
    State.Ends g l s (s.noteLine k kind) := (s.moves_noteLine g l k kind).endsQuiet rfl

/-- ABANDON is handed, the attempt fails as the event left its record, and the hand-out follows (R97). -/
theorem State.ends_abandonAndFail {x : Record} {w : FailReason} (hr : s.record? h = some r) (hl : r.line = l)
    (state : r.state = .negotiating) (line : x.line = r.line) (down : w = .noCarrier → x.carrier = .down)
    (m : ∀ u, Record.Fails s.env x u → Record.Moves g s.env r u) :
    State.Ends g l s ((s.putRecord h x).abandonAndFail h x w) := by
  have fails := State.moves_abandonFail hr hl state line down m
  have at_line : x.line = l := line.trans hl
  unfold State.abandonAndFail
  rw [at_line]
  exact fails.endsHandOut

theorem State.ends_abandonAndFail_self {w : FailReason} (hr : s.record? h = some r) (hl : r.line = l)
    (state : r.state = .negotiating) (down : w = .noCarrier → r.carrier = .down) :
    State.Ends g l s (s.abandonAndFail h r w) := by
  have := State.ends_abandonAndFail (g := g) hr hl state rfl down fun u f => .single (.fail u state f)
  rwa [State.putRecord_self hr] at this

/-! ### CAPABILITY -/

theorem Record.takeMask_line (p : Profile) (m : StepSet) (r : Record) : (Record.takeMask p m r).line = r.line := by
  rw [Record.takeMask_eq]

theorem Record.seat_takeMask (p : Profile) (m : StepSet) (r : Record) : (Record.takeMask p m r).seat = r.seat :=
  Record.seat_congr (by rw [Record.takeMask_eq]) (by rw [Record.takeMask_eq])

theorem StepSet.has_and {a b : StepSet} {k : Step} : StepSet.has (a &&& b) k = true ↔ StepSet.has a k = true ∧ StepSet.has b k = true := by
  simp [StepSet.has]

theorem State.ends_capabilityOffered {a : Attempt} {m : StepSet} (hr : s.record? h = some r) (hl : r.line = l)
    (state : r.state = .negotiating) : State.Ends g l s (s.capabilityOffered h r a m) := by
  unfold State.capabilityOffered
  simp only
  split
  · exact State.ends_abandonAndFail hr hl state (Record.takeMask_line _ _ r) nofun fun u f => .single (.failMasked m u state f)
  next k found =>
    obtain ⟨offer, mask⟩ := StepSet.has_and.1 (highestStep_some.1 found).1
    have ordered : State.Moves g l s (s.putRecord h { Record.takeMask (s.profileOf r.profile) m r with
        attempt := some { a with phase := .ordered k }
        timer := s.startTimer (10 * (s.profileOf r.profile).confirmTimeout) }) :=
      State.moves_put hr (.single (.order m a k state offer mask))
        (Record.seat_congr (r := Record.takeMask (s.profileOf r.profile) m r) rfl rfl |>.trans (Record.seat_takeMask _ m r))
    exact (ordered.trans (State.moves_sendDown g l _ _ _)).endsQuiet rfl

/-- The mask of a record that keeps its state. -/
theorem State.moves_mask {m : StepSet} (hr : s.record? h = some r)
    (state : r.state = .waiting ∨ r.state = .backoff ∨ r.state = .negotiating)
    (kept : r.state = .negotiating → ∀ k, r.orderedStep = some k → StepSet.has m k = true) :
    State.Moves g l s (s.putRecord h (Record.takeMask (s.profileOf r.profile) m r)) :=
  State.moves_put hr (.single (.mask m state kept)) (Record.seat_takeMask _ m r)

theorem State.ends_capabilityOrdered {k : Step} {m : StepSet} (hr : s.record? h = some r) (hl : r.line = l)
    (state : r.state = .negotiating) (ordered : r.orderedStep = some k) : State.Ends g l s (s.capabilityOrdered h r k m) := by
  unfold State.capabilityOrdered
  simp only
  split
  next has =>
    refine (State.moves_mask hr (.inr (.inr state)) fun _ j hj => ?_).endsQuiet rfl
    cases ordered.symm.trans hj
    exact has
  · exact State.ends_abandonAndFail hr hl state (Record.takeMask_line _ _ r) nofun fun u f => .single (.failMasked m u state f)

/-- A HOLDOVER record that hears from its station is AGREED again before its new mask is judged (R102). -/
theorem Record.moves_remoteHoldover {e : Env} (m : StepSet) (state : r.state = .holdover) : Record.Moves g e r
    (Record.requeued e .remote (Record.enter (e.profileOf r.profile) .agreed
      { Record.takeMask (e.profileOf r.profile) m r with timer := none, carrier := .up })) := by
  have back : Record.Move g e r (Record.enter (e.profileOf r.profile) .agreed { r with carrier := .up, timer := none }) :=
    .carrierBack state
  have moved := Record.Move.remote (g := g) (e := e) .remote m
    (r := Record.enter (e.profileOf r.profile) .agreed { r with carrier := .up, timer := none }) rfl
  have same : Record.takeMask (e.profileOf r.profile) m
      (Record.enter (e.profileOf r.profile) .agreed { r with carrier := .up, timer := none }) =
      Record.enter (e.profileOf r.profile) .agreed
        { Record.takeMask (e.profileOf r.profile) m r with timer := none, carrier := .up } := by
    simp only [Record.takeMask_eq, Record.enter_eq, recorded_recorded, BitVec.or_comm kindState]
  exact same ▸ .tail (.single back) moved

theorem State.ends_capabilityRecord {m : StepSet} (hr : s.record? h = some r) (hl : r.line = l) :
    State.Ends g l s (s.capabilityRecord h r m) := by
  subst hl
  have abandon : State.Ends g r.line s (s.sendAbandon r) := (State.moves_sendAbandon g _ s r).endsQuiet rfl
  unfold State.capabilityRecord
  simp only
  split
  case h_1 state =>
    split
    · exact State.ends_refl g _ s
    next a ha =>
      split
      · exact State.ends_capabilityOffered hr rfl state
      next k phase => exact State.ends_capabilityOrdered hr rfl state (by simp [Record.orderedStep, ha, phase])
  case h_2 state =>
    exact (State.moves_requeue hr rfl (by rw [Record.seat_away, state]; decide) (.single (.remote .remote m state))).endsHandOut
  case h_3 state =>
    exact (State.moves_requeue hr rfl (by rw [Record.seat_away, state]; decide) (Record.moves_remoteHoldover m state)).endsHandOut
  case h_4 state => exact (State.moves_mask hr (.inl state) fun n => by rw [state] at n; cases n).endsQuiet rfl
  case h_5 state => exact (State.moves_mask hr (.inr (.inl state)) fun n => by rw [state] at n; cases n).endsQuiet rfl
  all_goals exact abandon

/-! ### Line-born admission -/

theorem State.SameTable.env {t' : State} (b : t.SameTable t') : t'.env = t.env := by rw [b]; rfl

/-- A change is not about anything but the table, the lines and the arbiters. -/
theorem State.Change.into {t' : State} (a : State.Change g l s t) (b : t.SameTable t') : State.Change g l s t' := by
  rw [b]
  exact ⟨a.slots, a.lines, a.keys, fun hg q => ⟨⟨(a.queues hg q).1.nodup, (a.queues hg q).1.seats⟩, (a.queues hg q).2⟩, a.fits⟩

theorem State.Ends.quietInto {t' : State} (m : State.Moves g l s t) (arbiters : t.arbiters = s.arbiters) (b : t.SameTable t') :
    State.Ends g l s t' := by
  refine ⟨t', m.change.into b, b.env.trans m.env, .inr ⟨rfl, ?_⟩⟩
  rw [b]
  exact arbiters

theorem State.moves_refuseLineBorn (g : Prop) (l k : LineId) (s : State) (st : Station) :
    State.Moves g l s (s.refuseLineBorn k st) :=
  (State.moves_sendDown g l s _ _).trans (State.moves_noteLine g l _ _ _)

theorem State.ends_lineBorn {st : Station} {m : StepSet} (fresh : s.findKey l st = none) : State.Ends g l s (s.lineBorn l st m) := by
  have refused : State.Moves g l s (s.refuseLineBorn l st) := s.moves_refuseLineBorn g l l st
  unfold State.lineBorn
  split
  · exact refused.endsQuiet rfl
  · rw [State.place_eq s l st _ _ (c := .remote) rfl]
    split
    next crowded =>
      split at crowded
      · exact refused.endsQuiet rfl
      · split at crowded <;> cases crowded
    next full =>
      exact State.Ends.quietInto refused rfl (t' := s.setTableFull.refuseLineBorn l st) rfl
    next placed =>
      split at placed
      · cases placed
      next room =>
        split at placed
        · cases placed
        next chosen =>
          cases placed
          exact ⟨_, State.change_created rfl chosen fresh (not_le.1 room) (fun bound => bound l), State.env_created s _ _, .inl rfl⟩

/-! ### OUTCOME, CONFIRM, CARRIER and QUALITY -/

theorem Record.attempt?_some {a : Attempt} (e : r.attempt? = some a) : r.state = .negotiating ∧ r.attempt = some a := by
  unfold Record.attempt? at e
  split at e
  next state => exact ⟨state, e⟩
  · cases e

theorem State.ends_takeOutcome {w : OutcomeReason} (hr : s.record? h = some r) (hl : r.line = l) :
    State.Ends g l s (State.takeOutcome w s h r) := by
  subst hl
  unfold State.takeOutcome
  split
  · exact State.ends_noteLine g _ s _ _
  next a ha =>
    split
    · refine (State.moves_failAttempt hr rfl (Record.attempt?_some ha).1 ?_).endsHandOut
      cases w <;> exact nofun
    · exact State.ends_noteLine g _ s _ _

theorem State.ends_succeed {k : Step} (hr : s.record? h = some r) (hl : r.line = l) (confirms : r.Confirms k) :
    State.Ends g l s (s.succeed h r k) := by
  subst hl
  have success := State.change_succeeded (g := g) hr rfl confirms
  have found : ((s.releaseGrant r.line).putRecord h (Record.succeeded s.env k r)).record? h = some (Record.succeeded s.env k r) :=
    State.record?_putRecord_same _ h _
  have check : State.Moves g r.line _ (((s.releaseGrant r.line).putRecord h (Record.succeeded s.env k r)).postCheck h) :=
    State.moves_postCheck found (by rw [Record.succeeded_eq]) (by rw [Record.succeeded_eq])
  exact ⟨_, success.andThen check, check.env, .inl rfl⟩

theorem State.ends_takeConfirm {k : Step} (hr : s.record? h = some r) (hl : r.line = l) :
    State.Ends g l s (State.takeConfirm k s h r) := by
  subst hl
  unfold State.takeConfirm
  split
  · exact State.ends_noteLine g _ s _ _
  next a ha =>
    obtain ⟨state, attempt⟩ := Record.attempt?_some ha
    split
    · exact State.ends_noteLine g _ s _ _
    next o phase =>
      split
      · exact State.ends_succeed hr rfl ⟨state, by simp [Record.orderedStep, attempt, phase]⟩
      · exact State.ends_abandonAndFail_self hr rfl state nofun

theorem State.moves_carrier {x : Carrier} (hr : s.record? h = some r) (known : x ≠ .unknown) (holdover : r.state ≠ .holdover)
    (agreed : r.state = .agreed → x = .up) : State.Moves g l s (s.putRecord h { r with carrier := x }) :=
  State.moves_put hr (.single (.carrier x known holdover agreed)) rfl

theorem State.ends_takeCarrier {w : CarrierReport} (hr : s.record? h = some r) (hl : r.line = l) :
    State.Ends g l s (State.takeCarrier w s h r) := by
  subst hl
  unfold State.takeCarrier
  split
  · unfold State.carrierUp
    simp only
    split
    case h_1 state =>
      exact (State.moves_put hr (.single (.carrierBack state)) (by
        rw [(Record.seat_away (r := r)).2 (by rw [state]; decide)]; rfl)).endsQuiet rfl
    all_goals
      next state => exact (State.moves_carrier (x := .up) hr nofun (by rw [state]; decide) fun _ => rfl).endsQuiet rfl
  · unfold State.carrierDown
    simp only
    split
    case h_1 state =>
      exact (State.moves_put hr (.single (.carrierLost state)) (by
        rw [(Record.seat_away (r := r)).2 (by rw [state]; decide)]; rfl)).endsQuiet rfl
    case h_2 => exact State.ends_refl g _ s
    case h_3 state =>
      refine State.ends_abandonAndFail hr rfl state rfl (fun _ => rfl) fun u f => ?_
      exact .tail (.single (.carrier .down nofun (by rw [state]; decide) fun a => by rw [state] at a; cases a)) (.fail u state f)
    all_goals
      next state =>
        exact (State.moves_carrier (x := .down) hr nofun (by rw [state]; decide) fun a => by rw [state] at a; cases a).endsQuiet rfl

theorem State.ends_takeQuality {v : BitVec 8} (hr : s.record? h = some r) (hl : r.line = l) :
    State.Ends g l s (State.takeQuality v s h r) := by
  subst hl
  unfold State.takeQuality
  simp only
  split
  · exact State.ends_refl g _ s
  · have frame := Record.sample_frame (s.profileOf r.profile) s.ladders[(s.profileOf r.profile).ladder] v r
    have sampled : State.Moves g r.line s
        (s.putRecord h (Record.sample (s.profileOf r.profile) s.ladders[(s.profileOf r.profile).ladder] v r)) := by
      refine State.moves_put hr (.single (.sample v)) ?_
      obtain ⟨_, _, _, _, _, e⟩ := frame
      rw [e]
      rfl
    split
    · exact sampled.endsQuiet rfl
    · refine (sampled.trans (State.moves_ceilingReact (State.record?_putRecord_same s h _) ?_)).endsHandOut
      obtain ⟨_, _, _, _, _, e⟩ := frame
      rw [e]

end

end Sys2Proof.Machine
end


section
/-! Every command but a reset is an event of the table, the lines and the arbiters (Event). -/

namespace Sys2Proof.Machine

section
variable {g : Prop} {l : LineId} {s t u : State} {h : Handle} {r : Record}

/-! ### Frames of a line (R63 to R68) -/

@[simp] theorem Line.enter_state (st : LineState) (x : Line) : (Line.enter st x).state = st := by
  unfold Line.enter
  split
  next e => exact e
  · rfl

@[simp] theorem Line.enter_quota (st : LineState) (x : Line) : (Line.enter st x).quota = x.quota := by
  unfold Line.enter
  split <;> rfl

@[simp] theorem Line.enter_defaultProfile (st : LineState) (x : Line) : (Line.enter st x).defaultProfile = x.defaultProfile := by
  unfold Line.enter
  split <;> rfl

@[simp] theorem Line.takeCeiling_state (k : Step) (x : Line) : (Line.takeCeiling k x).state = x.state := by
  unfold Line.takeCeiling
  split <;> rfl

@[simp] theorem Line.takeCeiling_quota (k : Step) (x : Line) : (Line.takeCeiling k x).quota = x.quota := by
  unfold Line.takeCeiling
  split <;> rfl

theorem LineState.heard_known (st : LineState) : st.heard = .down ∨ st.heard = .up := by cases st <;> decide

theorem LineState.heard_up (st : LineState) : st.heard = .up ↔ st = .up := by cases st <;> decide

/-- The line part of a valid frame (R64). -/
theorem State.moves_heardFrame (g : Prop) (l : LineId) (s : State) (k : LineId) : State.Moves g l s (s.heardFrame k) :=
  .ofLine k _ (by simpa [Line.restartSilence] using LineState.heard_up _) (by simp [Line.restartSilence])
    (.single (.frame _ (LineState.heard_known _)))

theorem State.linesBound_modLine {f : Line → Line} (same : (f s.lines[l]).defaultProfile = s.lines[l].defaultProfile)
    (bound : s.LinesBound) : (s.modLine l f).LinesBound := by
  intro k
  show s.isValid _ = true
  rw [State.line_modLine]
  split
  next e => subst e; rw [same]; exact bound l
  · exact bound k

/-- What a frame makes of its station comes after its line part (R64, R70). -/
theorem State.Ends.heard (a : State.Ends g l (s.heardFrame l) t) : State.Ends g l s t := by
  obtain ⟨v, change, env, ends⟩ := a
  have heard := s.moves_heardFrame g l l
  exact ⟨v, change.after heard rfl (State.linesBound_modLine (by simp [Line.restartSilence])) env, env.trans heard.env, ends⟩

/-- A station frame other than CAPABILITY (R69, R71). -/
theorem State.ends_toStation {st : Station} {f : State → Handle → Record → State}
    (hf : ∀ t h r, State.record? t h = some r → r.line = l → State.Ends g l t (f t h r)) :
    State.Ends g l s ((s.heardFrame l).toStation l st f) := by
  refine State.Ends.heard ?_
  unfold State.toStation
  split
  · exact State.ends_noteLine g l _ _ _
  next h found =>
    obtain ⟨x, hx, hl, -⟩ := State.findKey_some found
    split
    · exact State.ends_noteLine g l _ _ _
    next r hr =>
      cases hr.symm.trans hx
      exact hf _ h x hx hl

theorem State.ends_takeCapability {st : Station} {m : StepSet} : State.Ends g l s ((s.heardFrame l).takeCapability l st m) := by
  refine State.Ends.heard ?_
  unfold State.takeCapability
  split
  next fresh => exact State.ends_lineBorn fresh
  next h found =>
    obtain ⟨x, hx, hl, -⟩ := State.findKey_some found
    split
    next none => exact absurd (none.symm.trans hx) nofun
    next r hr =>
      cases hr.symm.trans hx
      exact State.ends_capabilityRecord hr hl

theorem State.moves_ceilingVisits (g : Prop) (l : LineId) (s : State) (c : Step) :
    State.Moves g l s (s.forHandles fun h t => t.ceilingVisit l c h) :=
  s.forHandles_induction (P := State.Moves g l s) (f := fun h t => t.ceilingVisit l c h)
    (fun _ _ m => m.trans (State.moves_ceilingVisit c)) (.refl g l s)

/-- The line record of a LINE UP frame (R66, R67). -/
def Line.upFrame (now : Nat) (k : Step) (x : Line) : Line :=
  Line.restartSilence now (Line.takeCeiling k { Line.enter .up x with badRun := 0 })

theorem Line.upFrame_state (now : Nat) (k : Step) (x : Line) : (Line.upFrame now k x).state = .up := by
  simp [Line.upFrame, Line.restartSilence]

theorem Line.upFrame_quota (now : Nat) (k : Step) (x : Line) : (Line.upFrame now k x).quota = x.quota := by
  simp [Line.upFrame, Line.restartSilence]

theorem Line.takeCeiling_restartSilence (now : Nat) (k : Step) (x : Line) :
    Line.restartSilence now (Line.takeCeiling k x) = Line.takeCeiling k (Line.restartSilence now x) := by
  unfold Line.takeCeiling
  show _ = if x.ceiling = k then _ else _
  split <;> rfl

theorem Line.moves_upFrame (e : Env) (k : Step) (x : Line) : Line.Moves e x (Line.upFrame e.now k x) := by
  unfold Line.upFrame
  rw [Line.takeCeiling_restartSilence]
  exact .tail (.single (.frame .up (.inr rfl))) (.ceiling k)

theorem State.event_takeLineUp (k : Step) (q : g → s.QueuesOk) : State.Event g s (s.takeLineUp l k) := by
  have upFrame : Line.Moves s.env s.lines[l] (Line.upFrame s.now k s.lines[l]) := Line.moves_upFrame s.env k _
  have quota := Line.upFrame_quota s.now k s.lines[l]
  have up := Line.upFrame_state s.now k s.lines[l]
  show State.Event g s (if s.lines[l].state ≠ .up then (s.modLine l (Line.upFrame s.now k)).lineBecomesUp l
    else if k < s.lines[l].ceiling then (s.modLine l (Line.upFrame s.now k)).ceilingLowered l k
    else s.modLine l (Line.upFrame s.now k))
  split
  next before => exact (State.change_becomesUp before up quota upFrame).handOut q
  next before =>
    have stays : State.Moves g l s (s.modLine l (Line.upFrame s.now k)) :=
      .ofLine l _ (iff_of_true up (not_not.1 before)) quota upFrame
    split
    · exact (stays.trans (State.moves_ceilingVisits g l _ k)).handOut q
    · exact stays.quiet rfl

/-- A line that comes to be DOWN or LOST: its records are treated if it was UP (R66, R68). -/
theorem State.event_leaves {f : Line → Line} (down : (f s.lines[l]).state ≠ .up) (quota : (f s.lines[l]).quota = s.lines[l].quota)
    (m : Line.Moves s.env s.lines[l] (f s.lines[l])) :
    State.Event g s (if s.lineIsUp l then (s.modLine l f).lineLeavesUp l else s.modLine l f) := by
  split
  · exact State.event_leavesUp down quota m
  next before =>
    have before : s.lines[l].state ≠ .up := by simpa [State.lineIsUp] using before
    exact (State.Moves.ofLine (l := l) l f (iff_of_false down before) quota m).quiet rfl

theorem State.event_takeLineDown : State.Event g s (s.takeLineDown l) :=
  State.event_leaves (f := fun x => Line.restartSilence s.now { Line.enter .down x with badRun := 0 })
    (by simp [Line.restartSilence]) (by simp [Line.restartSilence]) (.single (.frame .down (.inl rfl)))

theorem Line.lose_state (x : Line) : (Line.lose x).state = .lost := by simp [Line.lose, Line.note]

theorem Line.lose_quota (x : Line) : (Line.lose x).quota = x.quota := by simp [Line.lose, Line.note]

theorem State.event_loseLine : State.Event g s (s.loseLine l) :=
  State.event_leaves (f := Line.lose) (by rw [Line.lose_state]; decide) (Line.lose_quota _) (.single .lose)

theorem State.modLine_modLine (s : State) (l : LineId) (a b : Line → Line) :
    (s.modLine l a).modLine l b = s.modLine l fun x => b (a x) := by
  unfold State.modLine
  simp

theorem State.event_takeMalformed : State.Event g s (s.takeMalformed l) := by
  have run : Line.Moves s.env s.lines[l]
      { s.lines[l] with badRun := min (s.lines[l].badRun + 1) Config.badRunLimit } := .single (.run _ (Nat.min_le_right _ _))
  unfold State.takeMalformed
  simp only
  split
  · unfold State.loseLine
    simp only [State.modLine_modLine]
    have same : (s.modLine l fun ln => { ln with badRun := min (s.lines[l].badRun + 1) Config.badRunLimit }).lineIsUp l =
        s.lineIsUp l := by
      simp only [State.lineIsUp, State.line_modLine_same]
    rw [same]
    exact State.event_leaves (f := fun x => Line.lose { x with badRun := min (s.lines[l].badRun + 1) Config.badRunLimit })
      (by rw [Line.lose_state]; decide) (by rw [Line.lose_quota]) (run.tail .lose)
  · exact (State.Moves.ofLine (l := l) l _ .rfl rfl run).quiet rfl

/-- A change of one line that keeps its state and its quota. -/
theorem State.event_modLine {f : Line → Line} (state : (f s.lines[l]).state = s.lines[l].state)
    (quota : (f s.lines[l]).quota = s.lines[l].quota) (m : Line.Moves s.env s.lines[l] (f s.lines[l])) :
    State.Event g s (s.modLine l f) :=
  (State.Moves.ofLine (l := l) l f (by rw [state]) quota m).quiet rfl

theorem Line.beginFrame_frame (x : Line) : x.beginFrame.state = x.state ∧ x.beginFrame.quota = x.quota := by
  unfold Line.beginFrame
  split <;> exact ⟨rfl, rfl⟩

theorem State.event_beginFrame : State.Event g s (s.modLine l Line.beginFrame) :=
  State.event_modLine (Line.beginFrame_frame _).1 (Line.beginFrame_frame _).2 (.single .begin)

/-! ### The stores and the ports -/

/-- Whatever becomes of everything but the table, the lines and the arbiters. -/
theorem State.Event.of_same (slots : t.slots = s.slots) (lines : t.lines = s.lines) (arbiters : t.arbiters = s.arbiters) :
    State.Event g s t := by
  have records : ∀ h, t.record? h = s.record? h := fun h => by simp only [State.record?, slots]
  have up : ∀ l, t.lineIsUp l = s.lineIsUp l := fun l => by simp only [State.lineIsUp, lines]
  exact {
    slots := fun h => by rw [slots]; exact .moves rfl (.refl _ _ _)
    lines := fun k => by rw [lines]
    keys := State.keys_shrink (fun h x hx => ⟨x, (records h).symm.trans hx, rfl, rfl⟩) fun k => by rw [lines]
    queues := fun _ q => q.same records arbiters
    fits := fun _ _ fit h x hx => by
      have before := fit h x ((records h).symm.trans hx)
      exact ⟨fun st => (up x.line).trans (before.1 st), fun st => (up x.line).trans (before.2 st)⟩
    busy := fun _ ok _ k => by
      rw [arbiters]
      exact (State.arbitersOk_iff.1 ok).2 k }

/-- LINE_CONFIG (R75): the new quota still holds the records of the line. -/
theorem State.event_lineConfig {p : Fin 16} {quota keepalive : Nat} {mode : AdmissionMode} (valid : s.isValid p = true)
    (room : s.liveCount l ≤ quota) (most : quota ≤ 64) (least : 1 ≤ keepalive) (longest : keepalive ≤ 255) :
    State.Event g s (s.modLine l fun ln =>
      { ln with quota := quota, mode := mode, defaultProfile := p, keepalive := keepalive }) where
  slots _ := .moves rfl (.refl _ _ _)
  lines := State.lines_modLine (.single (.config quota mode p keepalive most valid least longest))
  keys unique quotas := by
    refine ⟨unique, fun k => ?_⟩
    rw [State.line_modLine]
    split
    next e => subst e; exact room
    · exact quotas k
  queues _ q := q.modLine _ _
  fits _ _ fit h x hx := by
    have before := fit h x hx
    have up : (s.modLine l fun ln =>
        { ln with quota := quota, mode := mode, defaultProfile := p, keepalive := keepalive }).lineIsUp x.line =
        s.lineIsUp x.line := by
      by_cases hk : x.line = l
      · simp only [State.lineIsUp, hk, State.line_modLine_same]
      · exact State.lineIsUp_modLine_other hk
    exact ⟨fun st => up.trans (before.1 st), fun st => up.trans (before.2 st)⟩
  busy _ ok _ k := (State.arbitersOk_iff.1 ok).2 k

end

end Sys2Proof.Machine
end


section
/-! Host commands, expiries, queries and the sweep as events, and every command together. -/

namespace Sys2Proof.Machine

section
variable {g : Prop} {l : LineId} {s t u : State} {h : Handle} {r : Record}

/-- What an event does, where the seats before it are right as far as `g` asks. -/
def State.EventFrom (g : Prop) (s t : State) : Prop := (g → s.QueuesOk) → State.Event g s t

theorem State.Event.from (e : State.Event g s t) : State.EventFrom g s t := fun _ => e

theorem State.eventFrom_refl (g : Prop) (s : State) : State.EventFrom g s s := (State.Event.refl g s).from

theorem State.eventFrom_same (e : t = s) : State.EventFrom g s t := e ▸ State.eventFrom_refl g s

/-! ### Host commands -/

theorem eventFrom_cmdAdmit (s : State) : State.EventFrom g s (cmdAdmit s).state := by
  intro q
  obtain e | e | ⟨l, st, p, h, t, valid, fresh, placed, e⟩ := cmdAdmit_cases s <;> rw [e]
  · exact .refl g s
  · exact .of_same rfl rfl rfl
  · rw [State.place_eq s l st p none (c := .initial) rfl] at placed
    split at placed
    · cases placed
    next room =>
      split at placed
      · cases placed
      next chosen =>
        cases placed
        exact (State.change_created rfl chosen fresh (not_le.1 room) fun _ => valid).handOut q

theorem eventFrom_cmdRebind (s : State) : State.EventFrom g s (cmdRebind s).state := by
  intro q
  obtain e | ⟨h, r, p, hr, valid, -, e⟩ := cmdRebind_cases s <;> rw [e]
  · exact .refl g s
  · have bound : State.Moves g r.line s (s.putRecord h { r with profile := p }) :=
      State.moves_put hr (.single (.bind p valid)) rfl
    exact (bound.trans (State.moves_rebindReact (State.record?_putRecord_same s h _) rfl)).handOut q

theorem eventFrom_cmdCap (s : State) : State.EventFrom g s (cmdCap s).state := by
  intro q
  obtain e | ⟨h, r, o, hr, -, e⟩ := cmdCap_cases s <;> rw [e]
  · exact .refl g s
  · have capped : State.Moves g r.line s (s.putRecord h { r with capOverride := o }) :=
      State.moves_put hr (.single (.override o)) rfl
    exact (capped.trans (State.moves_capReact (State.record?_putRecord_same s h _) rfl)).handOut q

theorem eventFrom_cmdRenegotiate (s : State) : State.EventFrom g s (cmdRenegotiate s).state := by
  intro q
  obtain e | ⟨h, r, hr, ⟨state, -, e⟩ | ⟨state, e⟩ | ⟨state, e⟩⟩ := cmdRenegotiate_cases s <;> rw [e]
  · exact .refl g s
  · exact (State.moves_requeueAway hr rfl (.inl state)).handOut q
  · have retried : State.Moves g r.line s (s.putRecord h { r with attempts := 0 }) :=
      State.moves_put hr (.single (.retry state)) rfl
    have requeued := State.moves_requeueAway (g := g) (c := .host) (State.record?_putRecord_same s h { r with attempts := 0 })
      rfl (.inr (.inr (.inr (.inr ⟨state, rfl⟩))))
    exact (retried.trans requeued).handOut q
  · exact (State.moves_requeueAway hr rfl (.inr (.inr (.inl state)))).handOut q

theorem State.profiles_detach (s : State) (h : Handle) (r : Record) : (s.detach h r).profiles = s.profiles := by
  rw [s.outer_detach h r]

theorem Record.detached_key (p : Profile) (r : Record) : r.SameKey (Record.detached p r) := by
  simp [Record.SameKey, Record.detached, Record.dropAgreed_eq]

theorem Record.detached_profile (p : Profile) (r : Record) : (Record.detached p r).profile = r.profile := by
  simp [Record.detached, Record.dropAgreed_eq]

theorem State.graceTimer_start (s : State) (x : Grace) : ∀ t ∈ s.graceTimer x, t.start = s.now := by
  intro t ht
  cases x with
  | bounded n => cases ht; rfl
  | unbounded => cases ht

theorem eventFrom_cmdRetire (s : State) : State.EventFrom g s (cmdRetire s).state := by
  intro q
  obtain e | ⟨h, r, hr, -, ⟨-, e⟩ | ⟨held, x, e⟩⟩ := cmdRetire_cases s <;> rw [e]
  · exact .refl g s
  · rw [State.leaveTable_putRecord]
    exact (State.change_detached hr rfl (Record.leaves_left (s.body_of_record? hr) (Record.detached_key _ r))).handOut q
  · refine (State.change_detached hr rfl (Record.leaves_retiring (s.body_of_record? hr) ?_ rfl)).handOut q
    exact .retire held (s.graceTimer x) (s.graceTimer_start x)

theorem eventFrom_cmdAckChange (s : State) : State.EventFrom g s (cmdAckChange s).state := by
  intro _
  obtain e | ⟨h, kinds, full, e⟩ := cmdAckChange_cases s <;> rw [e]
  · exact .refl g s
  · cases hb : s.slots[h].body with
    | free => rw [hb] at full; cases full
    | live r =>
      have hr := s.record?_of_body hb
      exact (State.moves_put (g := g) (l := r.line) hr (.single (.acknowledge kinds)) rfl).quiet rfl
    | vacated l st c =>
      have others : ∀ b k, k ≠ h → (s.setBody h b).slots[k] = s.slots[k] := fun b k hk => s.slot_setBody_other (Ne.symm hk) b
      have none : s.record? h = none := by unfold State.record?; rw [hb]
      -- the slot holds no record before and after, so no key, count or seat changes
      have quiet : ∀ b, (∀ r, b ≠ .live r) → (∀ c, Slot.Turn g c s.env s.slots[h] { s.slots[h] with body := b }) →
          State.Event g s (s.setBody h b) := by
        intro b dead turn
        have noRecord : ∀ x, (s.setBody h b).record? h ≠ some x := fun x hx => by
          have body := State.body_of_record? _ hx
          rw [State.slot_setBody_same] at body
          exact dead x body
        refine (State.Change.ofSlot (s := s) (t := s.setBody h b) (l := 0) (h := h) rfl rfl (others b) ?_ (State.keys_kept (s := s) (t := s.setBody h b) rfl (others b) fun x hx =>
          absurd hx (noRecord x)) fun _ q => ⟨?_, fun _ _ => rfl⟩).quiet rfl
        · rw [State.slot_setBody_same]; exact turn _
        · exact q.away (h := h) (by simp [none]) (fun x hx => absurd hx (noRecord x))
            (fun k hk => State.record?_congr _ (others b k hk)) rfl
      rw [SlotBody.acknowledge]
      split
      · exact quiet .free (fun _ x => SlotBody.noConfusion x) fun _ => .clears rfl rfl
      next set =>
        exact quiet _ (fun _ x => SlotBody.noConfusion x) fun _ => .acknowledges l st c _ rfl hb rfl set

theorem State.moves_clearVisit (g : Prop) (l : LineId) (s : State) (h : Handle) : State.Moves g l s (s.clearVisit h) := by
  unfold State.clearVisit
  split
  · exact .refl g l s
  · split
    case h_1 | h_2 | h_3 => exact State.moves_sendAbandon g l s _
    all_goals exact .refl g l s

/-- Frames are handed for the records that CLEAR_TABLE finds; the table stays meanwhile (R26). -/
theorem State.clearVisits_slots (s : State) : (s.forHandles fun h t => t.clearVisit h).slots = s.slots :=
  s.forHandles_induction (P := fun t => t.slots = s.slots) (f := fun h t => t.clearVisit h) (fun h t e => by
    refine Eq.trans ?_ e
    unfold State.clearVisit
    split
    · rfl
    · split <;> rfl) rfl

theorem State.event_clear {t : State} (m : State.Moves g l s t) : State.Event g s { t with
    slots := t.slots.map fun x => { x with body := .free }, arbiters := Vector.replicate 8 Arbiter.reset } := by
  have own : ∀ h : Handle, (t.slots.map fun x => ({ x with body := .free } : Slot))[h] = { t.slots[h] with body := .free } :=
    fun h => by simp
  have records : ∀ h : Handle, State.record? { t with
      slots := t.slots.map fun x => { x with body := .free }, arbiters := Vector.replicate 8 Arbiter.reset } h = none := fun h => by
    simp only [State.record?, own]
  have arbiters : ∀ k : LineId, (Vector.replicate 8 Arbiter.reset)[k] = Arbiter.reset := fun k => by simp
  exact {
    slots := fun h => .clears (by rw [own]; exact m.epoch h) (by rw [own])
    lines := fun k => m.lines k |>.congr (congrArg Env.now m.env) (congrArg Env.valid m.env)
    keys := State.keys_shrink (fun h x hx => absurd ((records h).symm.trans hx) nofun) m.quota
    queues := fun _ _ => ⟨fun k => by rw [arbiters]; exact List.nodup_nil, fun k h => by
      rw [arbiters, records, Arbiter.seats_away (by simp)]
      exact ⟨nofun, List.not_mem_nil, List.not_mem_nil⟩⟩
    fits := fun _ _ _ h x hx => absurd ((records h).symm.trans hx) nofun
    busy := fun _ _ _ k => by
      rw [arbiters]
      exact fun _ => rfl }

theorem eventFrom_cmdClearTable (s : State) : State.EventFrom g s (cmdClearTable s).state := by
  have visits : State.Moves g 0 s (s.forHandles fun h t => t.clearVisit h) :=
    s.forHandles_induction (P := State.Moves g 0 s) (f := fun h t => t.clearVisit h)
      (fun h t m => m.trans (t.moves_clearVisit g 0 h)) (.refl g 0 s)
  rw [cmdClearTable_state]
  exact (State.event_clear visits).from

theorem eventFrom_cmdLineConfig (s : State) : State.EventFrom g s (cmdLineConfig s).state := by
  intro _
  obtain e | ⟨l, p, quota, mode, keepalive, valid, room, most, least, longest, e⟩ := cmdLineConfig_cases s <;> rw [e]
  · exact .refl g s
  · exact State.event_lineConfig valid room most least longest

theorem Line.resetEngine_state (now : Nat) (x : Line) : (Line.resetEngine now x).state = .down := by
  simp [Line.resetEngine, Line.restartSilence]

theorem Line.resetEngine_quota (now : Nat) (x : Line) : (Line.resetEngine now x).quota = x.quota := by
  simp [Line.resetEngine, Line.restartSilence]

theorem eventFrom_cmdLineReset (s : State) : State.EventFrom g s (cmdLineReset s).state := by
  intro _
  obtain e | ⟨l, e⟩ := cmdLineReset_cases s <;> rw [e]
  · exact .refl g s
  · exact State.event_leavesUp (by rw [Line.resetEngine_state]; decide) (Line.resetEngine_quota _ _) (.single .resetEngine)

theorem eventFrom_cmdLineAck (s : State) : State.EventFrom g s (cmdLineAck s).state := by
  intro _
  obtain e | ⟨l, c, e⟩ := cmdLineAck_cases s <;> rw [e]
  · exact .refl g s
  · exact State.event_modLine rfl rfl (.single (.acknowledge c))

theorem eventFrom_cmdProfileStage (s : State) : State.EventFrom g s (cmdProfileStage s).state := by
  obtain e | ⟨n, w, p, -, e⟩ := cmdProfileStage_cases s <;> rw [e]
  · exact State.eventFrom_refl g s
  · exact fun _ => .of_same rfl rfl rfl

theorem eventFrom_cmdProfileLoad (s : State) : State.EventFrom g s (cmdProfileLoad s).state := by
  obtain e | ⟨n, p, -, e⟩ := cmdProfileLoad_cases s <;> rw [e]
  · exact State.eventFrom_refl g s
  · exact fun _ => .of_same rfl rfl rfl

theorem eventFrom_cmdProfileCommit (s : State) : State.EventFrom g s (cmdProfileCommit s).state := by
  obtain e | ⟨n, w, -, e⟩ := cmdProfileCommit_cases s <;> rw [e]
  · exact State.eventFrom_refl g s
  · exact fun _ => .of_same rfl rfl rfl

theorem eventFrom_cmdLadderWrite (s : State) : State.EventFrom g s (cmdLadderWrite s).state := by
  obtain e | ⟨l, k, x, -, e⟩ := cmdLadderWrite_cases s <;> rw [e]
  · exact State.eventFrom_refl g s
  · exact fun _ => .of_same rfl rfl rfl

theorem eventFrom_commandOf (code : Word) (s : State) : State.EventFrom g s (commandOf code s).state :=
  commandOf_cases (P := fun body => State.EventFrom g s (body s).state)
    (eventFrom_cmdAdmit s) (State.eventFrom_same (cmdFind_state s)) (State.eventFrom_same (cmdRead_state s))
    (eventFrom_cmdRebind s) (eventFrom_cmdCap s) (eventFrom_cmdRenegotiate s) (eventFrom_cmdRetire s)
    (State.eventFrom_same (cmdNextChange_state s)) (eventFrom_cmdAckChange s) (eventFrom_cmdProfileStage s)
    (eventFrom_cmdProfileLoad s) (eventFrom_cmdProfileCommit s) (State.eventFrom_same (cmdProfileRead_state s))
    (eventFrom_cmdLadderWrite s) (State.eventFrom_same (cmdLadderRead_state s)) (eventFrom_cmdLineConfig s)
    (State.eventFrom_same (cmdLineRead_state s)) (eventFrom_cmdLineReset s) (eventFrom_cmdLineAck s)
    (eventFrom_cmdClearTable s) (State.eventFrom_same (cmdIdent_state s)) (State.eventFrom_same (cmdUnknown_state s)) code

theorem State.SamePart.sameTable (a : s.SamePart t) : s.SameTable t := by
  rw [a]
  rfl

theorem State.EventFrom.around {s' t' : State} (a : s.SameTable s') (b : t.SameTable t') (e : State.EventFrom g s' t) :
    State.EventFrom g s t' := by
  intro q
  refine State.Event.around a b (e fun hg => ?_)
  rw [a]
  exact ⟨(q hg).nodup, (q hg).seats⟩

theorem State.EventFrom.samePart {s s' t t' : State} (a : s.SamePart s') (b : t.SamePart t') (e : State.EventFrom g s' t) :
    State.EventFrom g s t' := e.around a.sameTable b.sameTable

/-! ### Expiries -/

theorem State.eventFrom_expire {kind : Record → Bool} {f : State → Record → State}
    (hf : ∀ r, s.record? h = some r → kind r = true → State.EventFrom g s (f s r)) : State.EventFrom g s (s.expire h kind f) := by
  obtain e | ⟨r, t, -, hr, -, -, ok, e⟩ := s.expire_cases h kind f <;> rw [e]
  · exact State.eventFrom_refl g s
  · exact hf r hr ok

theorem State.eventFrom_attemptExpires (hr : s.record? h = some r) (state : r.state = .negotiating) :
    State.EventFrom g s (s.abandonAndFail h r .timeout) :=
  (State.ends_abandonAndFail_self (w := .timeout) hr rfl state nofun).event

theorem State.eventFrom_holdoverExpires (hr : s.record? h = some r) (state : r.state = .holdover) : State.EventFrom g s
    (((s.putRecord h (Record.dropAgreed (s.profileOf r.profile) r)).requeue h .holdoverExpiry).handOut r.line) :=
  (State.moves_requeue hr rfl (by rw [Record.seat_away, state]; decide) (.single (.holdoverEnds .holdoverExpiry state))).handOut

/-- A RETIRING record leaves the table (R129). -/
theorem State.eventFrom_leaveTable {v : Record} (hr : s.record? h = some r) (state : r.state = .retiring) (key : r.SameKey v) :
    State.EventFrom g s ((s.putRecord h v).leaveTable h) := by
  intro _
  have leaves := State.change_detached (g := g) hr rfl
    (Record.leaves_left (p := s.profileOf v.profile) (s.body_of_record? hr) key)
  have stays : s.detach h r = s := by simp only [State.detach, state]
  rw [stays] at leaves
  rw [State.leaveTable_putRecord]
  exact leaves.quiet rfl

theorem State.eventFrom_graceExpires (hr : s.record? h = some r) (state : r.state = .retiring) :
    State.EventFrom g s (s.leaveTable h) := by
  have := State.eventFrom_leaveTable (g := g) hr state ⟨rfl, rfl⟩
  rwa [State.putRecord_self hr] at this

end

end Sys2Proof.Machine
end


section
/-! Every command but a reset is an event (EventFrom). -/

namespace Sys2Proof.Machine

section
variable {g : Prop} {l : LineId} {s t u : State} {h : Handle} {r : Record}

/-! ### Queries -/

theorem State.eventFrom_applyNamed {handle : BitVec 9} {e : Epoch} {f : Handle → Record → Applied}
    (hf : ∀ h r, s.record? h = some r → State.EventFrom g s (f h r).state) :
    State.EventFrom g s (s.applyNamed handle e f).state := by
  unfold State.applyNamed
  split
  · split
    · exact State.eventFrom_refl g s
    next named => exact hf _ _ (State.named?_record named)
  · exact State.eventFrom_refl g s

theorem State.eventFrom_holdRecord {e : Epoch} (hr : s.record? h = some r) :
    State.EventFrom g s (s.holdRecord e h r).state := by
  intro _
  obtain e | ⟨live, room, e⟩ := s.holdRecord_cases e h r <;> rw [e]
  · exact .refl g s
  · exact (State.moves_put (l := r.line) hr (.single (.hold live room)) rfl).quiet rfl

theorem State.eventFrom_releaseRecord {e : Epoch} (hr : s.record? h = some r) :
    State.EventFrom g s (s.releaseRecord e h r).state := by
  obtain e | ⟨-, ⟨state, -, e⟩ | ⟨stays, e⟩⟩ := s.releaseRecord_cases e h r <;> rw [e]
  · exact State.eventFrom_refl g s
  · exact State.eventFrom_leaveTable hr state ⟨rfl, rfl⟩
  · exact fun _ => (State.moves_put (l := r.line) hr (.single (.release stays)) rfl).quiet rfl

theorem State.eventFrom_discardQuery (s : State) : State.EventFrom g s s.discardQuery := fun _ => .of_same rfl rfl rfl

theorem State.eventFrom_query {tag : Tag} {f : State → Applied} (hf : State.EventFrom g s (f s).state) :
    State.EventFrom g s (s.query tag f) := by
  obtain ⟨-, e⟩ | ⟨-, -, -, e⟩ | ⟨-, -, -, e⟩ := s.query_cases tag f <;> rw [e]
  · exact State.eventFrom_refl g s
  · exact s.eventFrom_discardQuery
  · exact State.EventFrom.around (s := s) (s' := s) (t := (f s).state) rfl rfl hf

/-! ### The sweep -/

/-- The record a sweep requeues, with the counts of the sweep moved (R38 to R40). -/
theorem State.eventFrom_sweepMoves {w : Option Sweep} (hr : s.record? h = some r) (state : r.state = .agreed ∨ r.state = .holdover) :
    State.EventFrom g s ((({ s with sweep := w } : State).requeue h .profile).handOut r.line) := by
  refine State.EventFrom.around (s' := { s with sweep := w }) rfl (t := (State.requeue { s with sweep := w } h .profile).handOut r.line) rfl ?_
  exact (State.moves_requeueAway (s := { s with sweep := w }) (l := r.line) hr rfl (state.imp_right .inl)).handOut

theorem State.eventFrom_sweep {w : Option Sweep} : State.EventFrom g s { s with sweep := w } := fun _ => .of_same rfl rfl rfl

theorem State.eventFrom_visitRecord {w : Sweep} (hr : s.record? h = some r) : State.EventFrom g s (s.visitRecord h r w) := by
  unfold State.visitRecord
  simp only
  split
  case h_1 state =>
    split
    · exact State.eventFrom_sweepMoves hr (.inl state)
    · exact State.eventFrom_sweep
  case h_2 state =>
    split
    · exact State.eventFrom_sweepMoves hr (.inr state)
    · exact State.eventFrom_sweep
  case h_3 =>
    refine State.EventFrom.around (t := s.putRecord h { r with attempt := r.attempt.map fun a => { a with rerun := true } })
      (s := s) (s' := s) rfl rfl fun _ => ?_
    exact (State.moves_rerun (l := r.line) hr).quiet rfl
  all_goals exact State.eventFrom_sweep

theorem State.eventFrom_sweepVisit (s : State) : State.EventFrom g s s.sweepVisit := by
  unfold State.sweepVisit
  split
  · exact State.eventFrom_refl g s
  · split
    · simp only
      split
      · exact State.eventFrom_sweep
      next hr =>
        split
        · exact State.eventFrom_visitRecord hr
        · exact State.eventFrom_sweep
    · exact State.eventFrom_refl g s

theorem State.eventFrom_sweepEnd (s : State) : State.EventFrom g s s.sweepEnd := by
  unfold State.sweepEnd
  split
  · exact State.eventFrom_refl g s
  · split
    · exact State.eventFrom_refl g s
    · exact fun _ => .of_same rfl rfl rfl

/-! ### Every command -/

theorem State.eventFrom_writeGo (s : State) : State.EventFrom g s s.writeGo :=
  State.writeGo_lift (State.eventFrom_refl g) State.EventFrom.samePart eventFrom_commandOf s

theorem State.eventFrom_issue (s : State) (code : Word) (args : List Word) :
    State.EventFrom g s (s.issue code args (commandOf code)) :=
  State.issue_lift (State.eventFrom_refl g) State.EventFrom.samePart (eventFrom_commandOf code) s code args

theorem State.eventFrom_writeWord (s : State) (a : BitVec 5) (v : Word) : State.EventFrom g s (s.writeWord a v) := by
  obtain e | ⟨port, flags, enables, e⟩ := s.writeWord_cases a v <;> rw [e]
  · exact s.eventFrom_writeGo
  · exact fun _ => .of_same rfl rfl rfl

theorem State.EventFrom.ite {c : Prop} [Decidable c] (e : c → State.EventFrom g s t) : State.EventFrom g s (if c then t else s) := by
  split
  next holds => exact e holds
  · exact State.eventFrom_refl g s

theorem State.eventFrom_idle {rx : Receiver} : State.EventFrom g s (match rx with
    | .report l => s.modLine l fun ln => { ln with rxWaitsIdle := false }
    | .lookup => { s with lookup := { s.lookup with rxWaitsIdle := false } }) := by
  cases rx with
  | report l => exact fun _ => State.event_modLine rfl rfl (.single .found)
  | lookup => exact fun _ => .of_same rfl rfl rfl

/-- Every command but a reset does to the table, the lines and the arbiters what an event can do. -/
theorem exec_event {c : Instr} (notReset : isResetEvent c = false) (s : State) :
    ∃ t, exec c s = .next t ∧ State.EventFrom g s t := by
  by_cases host : hostCommand? c = none
  · cases c
    case goWhileBusy => exact ⟨_, rfl, .ite fun _ => s.eventFrom_writeGo⟩
    case mailboxWrite w v =>
      obtain ⟨port, e⟩ := s.writeMailbox_eq w v
      exact ⟨_, rfl, .ite fun _ => by rw [e]; exact fun _ => .of_same rfl rfl rfl⟩
    case flagsWrite v => exact ⟨_, rfl, .ite fun _ _ => .of_same rfl rfl rfl⟩
    case enablesWrite v => exact ⟨_, rfl, .ite fun _ _ => .of_same rfl rfl rfl⟩
    case portStatusWrite v => exact ⟨_, rfl, .ite fun _ _ => .of_same rfl rfl rfl⟩
    case registerWrite a v => exact ⟨_, rfl, .ite fun _ => s.eventFrom_writeWord a v⟩
    case sweepVisit => exact ⟨_, rfl, .ite fun _ => s.eventFrom_sweepVisit⟩
    case commitSweepEnd => exact ⟨_, rfl, .ite fun _ => s.eventFrom_sweepEnd⟩
    case lineUp l k => exact ⟨_, rfl, .ite fun _ => State.event_takeLineUp k⟩
    case lineDown l => exact ⟨_, rfl, .ite fun _ _ => State.event_takeLineDown⟩
    case alive l => exact ⟨_, rfl, .ite fun _ _ => (s.moves_heardFrame g l l).quiet rfl⟩
    case capability l st m => exact ⟨_, rfl, .ite fun _ => State.ends_takeCapability.event⟩
    case outcome l st w =>
      exact ⟨_, rfl, .ite fun _ => (State.ends_toStation fun _ _ _ => State.ends_takeOutcome).event⟩
    case confirm l st k =>
      exact ⟨_, rfl, .ite fun _ => (State.ends_toStation fun _ _ _ => State.ends_takeConfirm).event⟩
    case carrier l st w =>
      exact ⟨_, rfl, .ite fun _ => (State.ends_toStation fun _ _ _ => State.ends_takeCarrier).event⟩
    case quality l st v =>
      exact ⟨_, rfl, .ite fun _ => (State.ends_toStation fun _ _ _ => State.ends_takeQuality).event⟩
    case malformedFrame l => exact ⟨_, rfl, .ite fun _ _ => State.event_takeMalformed⟩
    case frameTransmission l => exact ⟨_, rfl, .ite fun _ _ => State.event_beginFrame⟩
    case frameTransmissionComplete l => exact ⟨_, rfl, .ite fun _ _ => State.event_beginFrame⟩
    case silenceExpiry l =>
      refine ⟨_, rfl, ?_⟩
      split
      · exact State.eventFrom_refl g s
      · exact .ite fun _ _ => State.event_loseLine
    case negotiationTimerExpiry h =>
      refine ⟨_, rfl, State.eventFrom_expire fun r hr ok => State.eventFrom_attemptExpires hr ?_⟩
      simp only [Record.inOffered, Bool.and_eq_true, decide_eq_true_eq] at ok
      exact ok.1
    case confirmTimerExpiry h =>
      refine ⟨_, rfl, State.eventFrom_expire fun r hr ok => State.eventFrom_attemptExpires hr ?_⟩
      simp only [Record.inOrdered, Bool.and_eq_true, decide_eq_true_eq] at ok
      exact ok.1
    case holdoverExpiry h =>
      exact ⟨_, rfl, State.eventFrom_expire fun r hr ok => State.eventFrom_holdoverExpires hr (of_decide_eq_true ok)⟩
    case backoffExpiry h =>
      refine ⟨_, rfl, State.eventFrom_expire fun r hr ok => State.Moves.handOut (l := r.line) ?_⟩
      exact State.moves_requeueAway hr rfl (.inr (.inr (.inl (of_decide_eq_true ok))))
    case graceExpiry h =>
      exact ⟨_, rfl, State.eventFrom_expire fun r hr ok => State.eventFrom_graceExpires hr (of_decide_eq_true ok)⟩
    case lookupFind tag line st =>
      exact ⟨_, rfl, State.eventFrom_query (by rw [State.applyFind_state]; exact State.eventFrom_refl g s)⟩
    case peek tag h e =>
      exact ⟨_, rfl, State.eventFrom_query (State.eventFrom_applyNamed fun _ _ _ => State.eventFrom_refl g s)⟩
    case hold tag h e =>
      exact ⟨_, rfl, State.eventFrom_query (State.eventFrom_applyNamed fun _ _ => State.eventFrom_holdRecord)⟩
    case release tag h e =>
      exact ⟨_, rfl, State.eventFrom_query (State.eventFrom_applyNamed fun _ _ => State.eventFrom_releaseRecord)⟩
    case badQuery tag => exact ⟨_, rfl, State.eventFrom_query (State.eventFrom_refl g s)⟩
    case queryDiscard => exact ⟨_, rfl, .ite fun _ => s.eventFrom_discardQuery⟩
    case answerSent => exact ⟨_, rfl, .ite fun _ _ => .of_same rfl rfl rfl⟩
    case idleOfTwoByteTimes rx =>
      refine ⟨_, rfl, ?_⟩
      split
      · exact State.eventFrom_refl g s
      · exact State.eventFrom_idle
    case powerOn | powerOnEnd | resetn | resetnRelease => cases notReset
    all_goals cases host
  · obtain ⟨⟨code, args⟩, e⟩ := Option.ne_none_iff_exists'.mp host
    exact ⟨_, exec_hostCommand e s, s.eventFrom_issue code args⟩

end

end Sys2Proof.Machine
end


section
/-! Steps: what one step of the part is, and the rules of the table that every step keeps. -/

namespace Sys2Proof.Machine

/-! ### What the part owes -/

theorem notReset_expiryOf {h : Handle} {r : Record} {c : Instr} (e : expiryOf h r = some c) : isResetEvent c = false := by
  unfold expiryOf at e
  split at e
  case h_1 =>
    split at e
    · split at e <;> cases e <;> rfl
    · cases e
  all_goals cases e
  all_goals rfl

theorem notReset_zeroExpiry {s : State} {h : Handle} {c : Instr} (e : s.zeroExpiry h = some c) : isResetEvent c = false := by
  unfold State.zeroExpiry at e
  split at e
  · split at e
    · exact notReset_expiryOf e
    · cases e
  · cases e

theorem notReset_dueExpiry {s : State} {h : Handle} {c : Instr} (e : s.dueExpiry h = some c) : isResetEvent c = false := by
  unfold State.dueExpiry at e
  split at e
  · split at e
    · exact notReset_expiryOf e
    · cases e
  · cases e

/-- What the part does of its own accord is never a reset. -/
theorem notReset_nextInternal {s : State} {c : Instr} (e : s.nextInternal = some c) : isResetEvent c = false := by
  unfold State.nextInternal at e
  split at e
  · cases e
  split at e
  next owed =>
    cases e
    obtain ⟨h, -, zero⟩ := List.exists_of_findSome?_eq_some owed
    exact notReset_zeroExpiry zero
  split at e
  · cases e; rfl
  split at e
  · cases e; rfl
  split at e
  · cases e; rfl
  split at e
  · split at e <;> cases e <;> rfl
  split at e
  next owed =>
    cases e
    obtain ⟨h, -, due⟩ := List.exists_of_findSome?_eq_some owed
    exact notReset_dueExpiry due
  · obtain ⟨l, -, rfl⟩ := Option.map_eq_some_iff.1 e
    rfl

/-! ### The held part (R169) -/

theorem State.expire_held {s : State} (held : s.running = false) {h : Handle} {kind : Record → Bool} {f : State → Record → State} :
    s.expire h kind f = s := by
  obtain e | ⟨r, t, running, -⟩ := s.expire_cases h kind f
  · exact e
  · rw [held] at running; cases running

theorem State.query_held {s : State} (held : s.running = false) {tag : Tag} {f : State → Applied} : s.query tag f = s := by
  obtain ⟨-, e⟩ | ⟨running, -⟩ | ⟨running, -⟩ := s.query_cases tag f
  · exact e
  all_goals rw [held] at running; cases running

/-- A part held in power-on or reset takes no command but the pins' own (R169). -/
theorem exec_held {c : Instr} {s : State} (notReset : isResetEvent c = false) (held : s.running = false) : exec c s = .next s := by
  by_cases host : hostCommand? c = none
  · cases c
    case powerOn | powerOnEnd | resetn | resetnRelease => cases notReset
    case negotiationTimerExpiry h | confirmTimerExpiry h | holdoverExpiry h | backoffExpiry h | graceExpiry h =>
      exact congrArg Host.Outcome.next (State.expire_held held)
    case lookupFind tag l st | peek tag h e | hold tag h e | release tag h e | badQuery tag =>
      exact congrArg Host.Outcome.next (State.query_held held)
    case silenceExpiry l =>
      refine congrArg Host.Outcome.next ?_
      split
      · rfl
      · exact if_neg (by simp [held])
    case idleOfTwoByteTimes rx => exact congrArg Host.Outcome.next (if_pos (by simp [held]))
    case goWhileBusy | mailboxWrite w v | flagsWrite v | enablesWrite v | portStatusWrite v | registerWrite a v | sweepVisit
      | commitSweepEnd | lineUp l k | lineDown l | alive l | capability l st m | outcome l st w | confirm l st k | carrier l st w
      | quality l st v | malformedFrame l | frameTransmission l | frameTransmissionComplete l | queryDiscard | answerSent =>
      exact congrArg Host.Outcome.next (if_neg (by simp [held, State.hears]))
    all_goals cases host
  · obtain ⟨⟨code, args⟩, e⟩ := Option.ne_none_iff_exists'.mp host
    rw [exec_hostCommand e s, State.issue_held held]

/-! ### One step -/

/-- A step is one event of the table, or the blocks take their reset values, or the pins or the time base move (R9, R169). -/
theorem step_cases {s t : State} (e : step s = .next t) :
    (∃ s', s' = { s with pending := s'.pending } ∧ s'.Steady t ∧ (s'.running = false → t = s') ∧
      ∀ g, State.EventFrom g s' t) ∨
    t = { State.reset with
      poweringOn := t.poweringOn, resetLow := t.resetLow, now := s.now, spi := s.spi.cut, pending := t.pending } ∨
    (t = { s with poweringOn := t.poweringOn, resetLow := t.resetLow, now := t.now, pending := t.pending } ∧
      (t.running = false → s.running = false) ∧
      (t.now = s.now ∨ t.now = s.now + 1 ∧ s.nextInternal = none)) := by
  have event : ∀ (c : Instr) (s' : State), isResetEvent c = false → exec c s' = .next t →
      s'.Steady t ∧ (s'.running = false → t = s') ∧ ∀ g, State.EventFrom g s' t := by
    intro c s' notReset e
    obtain ⟨u, next, steady⟩ := exec_steady s' notReset
    cases e.symm.trans next
    refine ⟨steady, fun held => ?_, fun g => ?_⟩
    · cases e.symm.trans (exec_held notReset held)
      rfl
    · obtain ⟨u, next, ev⟩ := exec_event (g := g) notReset s'
      cases e.symm.trans next
      exact ev
  unfold step at e
  split at e
  next c rest queue =>
    cases reset : isResetEvent c with
    | false => exact .inl ⟨{ s with pending := rest }, rfl, event c _ reset e⟩
    | true =>
      cases c
      case powerOn | resetn => cases e; exact .inr (.inl rfl)
      case powerOnEnd | resetnRelease =>
        cases e
        refine .inr (.inr ⟨rfl, fun held => ?_, .inl rfl⟩)
        simp_all [State.running]
      all_goals cases reset
  · split at e
    next c owed => exact .inl ⟨s, rfl, event c s (notReset_nextInternal owed) e⟩
    next idle => cases e; exact .inr (.inr ⟨rfl, id, .inr ⟨rfl, idle⟩⟩)

/-- What pins, time and queue do not matter to, the reset values meet and every event keeps, every step keeps. -/
theorem step_keeps {P : State → Prop}
    (around : ∀ (s : State) (p r : Bool) (n : Nat) (q : List Instr), P s →
      P { s with poweringOn := p, resetLow := r, now := n, pending := q })
    (reset : ∀ (p r : Bool) (n : Nat) (x : Spi) (q : List Instr),
      P { State.reset with poweringOn := p, resetLow := r, now := n, spi := x, pending := q })
    (event : ∀ s t : State, P s → s.Steady t → (∀ g, State.EventFrom g s t) → P t)
    {s t : State} (hs : P s) (e : step s = .next t) : P t := by
  obtain ⟨s', same, steady, -, ev⟩ | same | ⟨same, -⟩ := step_cases e
  · refine event s' t ?_ steady ev
    rw [same]
    exact around s s.poweringOn s.resetLow s.now s'.pending hs
  · rw [same]
    exact reset _ _ _ _ _
  · rw [same]
    exact around s _ _ _ _ hs

theorem reset_everyRecord {P : Record → Prop} (p r : Bool) (n : Nat) (x : Spi) (q : List Instr) :
    State.EveryRecord { State.reset with poweringOn := p, resetLow := r, now := n, spi := x, pending := q } P := by
  intro h u hu
  have none := State.reset_record? h
  exact absurd (none.symm.trans hu) nofun

/-! ### Records -/

/-- An event keeps of every record what moves, a success and a creation keep. -/
theorem State.Event.keepRecords {g : Prop} {s t : State} {P : Record → Prop} (ev : State.Event g s t)
    (move : ∀ r u, P r → Record.Move g t.env r u → P u)
    (success : ∀ k r, r.Confirms k → P r → P (Record.succeeded t.env k r))
    (creation : ∀ l st r, Record.Created s.LinesBound t.env l st r → P r) (before : s.EveryRecord P) : t.EveryRecord P := by
  intro h u hu
  exact (ev.slots h).keep move success creation (fun r hr => before h r (s.record?_of_body hr)) u (t.body_of_record? hu)

/-- Every step keeps of every record what moves, a success and a creation keep. -/
theorem step_keepsRecords {P : Record → Prop} (move : ∀ e r u, P r → Record.Move False e r u → P u)
    (success : ∀ e k r, r.Confirms k → P r → P (Record.succeeded e k r))
    (creation : ∀ b e l st r, Record.Created b e l st r → P r) {s t : State} (hs : s.EveryRecord P) (e : step s = .next t) :
    t.EveryRecord P :=
  step_keeps (P := fun s => s.EveryRecord P) (fun _ _ _ _ _ h => h) reset_everyRecord
    (fun _ _ h _ ev => (ev False False.elim).keepRecords (move _) (success _) (creation _ _) h) hs e

end Sys2Proof.Machine
end


section
/-! The invariants of records, arbiters, keys and stores, step by step. -/

namespace Sys2Proof.Machine

/-- Settles O57: an event keeps keys and quotas whatever else it does. -/
theorem keysAndQuotasHold : Obligations.KeysAndQuotasHold := by
  intro s t unique quotas e
  refine step_keeps (P := fun s => s.KeysUnique ∧ s.QuotasOk) (fun _ _ _ _ _ h => h) (fun _ _ _ _ _ => ?_)
    (fun s t h _ ev => (ev False False.elim).keys h.1 h.2) ⟨unique, quotas⟩ e
  exact ⟨fun h r hr => absurd ((State.reset_record? h).symm.trans hr) nofun, State.reset_quotasOk⟩

/-! ### Records and arbiters -/

theorem State.ProfilesOk.inRange {s : State} (ok : s.ProfilesOk) (p : Fin 16) : (s.env.profileOf p).InRange := by
  obtain ⟨-, -, range⟩ := ok
  show (s.profiles[p].getD Profile.factory).InRange
  cases h : s.profiles[p] with
  | some q => exact (range p q h).1
  | none => exact State.reset_profilesOk.1

/-- What the counts of every record rest on: ladders, profiles and seats. -/
structure State.CountsKept (s : State) : Prop where
  ladders : s.LaddersOk
  profiles : s.ProfilesOk
  queues : s.QueuesOk
  counts : s.EveryRecord Record.CountsOk

/-- Only a WAITING record takes the grant, so no FAILED record with 8 attempts starts another (R98). -/
theorem step_countsKept {s t : State} (hs : s.CountsKept) (e : step s = .next t) : t.CountsKept := by
  obtain ⟨ladders, profiles, -, -, -, -, arbiters, -⟩ := resetMeetsTheInvariants
  refine step_keeps (fun _ _ _ _ _ h => ⟨h.ladders, h.profiles, ⟨h.queues.nodup, h.queues.seats⟩, h.counts⟩) (fun _ _ _ _ _ => ?_)
    (fun s t h steady ev => ?_) hs e
  · have queues := (State.arbitersOk_iff.1 arbiters).1
    exact ⟨ladders, profiles, ⟨queues.nodup, queues.seats⟩, reset_everyRecord _ _ _ _ _⟩
  · have ev := ev True fun _ => h.queues
    have ladders := steady.ladders h.ladders
    have profiles := steady.profiles h.profiles
    refine ⟨ladders, profiles, ev.queues trivial h.queues, ?_⟩
    exact ev.keepRecords (fun _ _ h m => m.countsOk ladders profiles.inRange h) (fun _ _ _ h => Record.countsOk_succeeded h)
      (fun _ _ _ c => c.countsOk) h.counts

/-- Settles O55: every move of a record keeps what its state asks of its fields. -/
theorem recordsStayConsistent : Obligations.RecordsStayConsistent := by
  refine ⟨fun s t hs e => ?_, fun s t hs e => ?_, fun s t ladders profiles arbiters hs e => ?_, fun s t hs e => ?_⟩
  · exact step_keepsRecords (P := Record.FieldsOk) (fun _ _ _ h m => m.fieldsOk h) (fun _ _ _ _ h => Record.fieldsOk_succeeded h)
      (fun _ _ _ _ _ c => c.fieldsOk) hs e
  · exact step_keepsRecords (P := Record.MasksOk) (fun _ _ _ h m => m.masksOk h) (fun _ _ _ c h => Record.masksOk_succeeded c h)
      (fun _ _ _ _ _ c => c.masksOk) hs e
  · exact (step_countsKept ⟨ladders, profiles, (State.arbitersOk_iff.1 arbiters).1, hs⟩ e).counts
  · exact step_keepsRecords (P := Record.CarriersOk) (fun _ _ _ h m => m.carriersOk h)
      (fun e k r _ _ => Record.carriersOk_succeeded e k r) (fun _ _ _ _ _ c => c.carriersOk) hs e

/-- Settles O56: seats by the queues' own invariant, fit and cause record by record, and the hand-out leaves nobody waiting. -/
theorem arbitersMatchTheTable : Obligations.ArbitersMatchTheTable := by
  intro s t arbiters records e
  refine step_keeps (P := fun s => s.ArbitersOk ∧ s.EveryRecord fun r => s.RecordFitsLine r ∧ r.CauseOk)
    (fun _ _ _ _ _ h => h) (fun _ _ _ _ _ => ⟨State.reset_arbitersOk, reset_everyRecord _ _ _ _ _⟩)
    (fun s t h _ ev => ?_) ⟨arbiters, records⟩ e
  obtain ⟨arbiters, records⟩ := h
  have queues := (State.arbitersOk_iff.1 arbiters).1
  have fit : s.RecordsFit := fun h r hr => (records h r hr).1
  have ev := ev True fun _ => queues
  have causes : t.EveryRecord Record.CauseOk :=
    ev.keepRecords (fun _ _ h m => m.causeOk h) (fun k r _ _ => Record.causeOk_succeeded _ k r) (fun _ _ _ c => c.causeOk)
      fun h r hr => (records h r hr).2
  exact ⟨State.arbitersOk_iff.2 ⟨ev.queues trivial queues, ev.busy trivial arbiters fit⟩,
    fun h r hr => ⟨ev.fits trivial queues fit h r hr, causes h r hr⟩⟩

/-! ### Stores -/

theorem Line.enter_eq (st : LineState) (x : Line) : Line.enter st x = { x with
    state := st, changes := if x.state = st then x.changes else x.changes ||| lineKindState } := by
  unfold Line.enter Line.note
  split
  next e => rw [← e]
  · rfl

theorem Line.takeCeiling_eq (k : Step) (x : Line) : Line.takeCeiling k x = { x with
    ceiling := k, changes := if x.ceiling = k then x.changes else x.changes ||| lineKindCeiling } := by
  unfold Line.takeCeiling Line.note
  split
  next e => rw [← e]
  · rfl

/-- The lines that a move leaves name the profiles they named, or a VALID one (R60, R75). -/
theorem Line.Move.bound {e : Env} {x y : Line} (h : e.valid x.defaultProfile = true) (m : Line.Move e x y) :
    e.valid y.defaultProfile = true := by
  cases m with
  | config _ _ _ _ _ valid => exact valid
  | begin =>
    unfold Line.beginFrame
    split <;> exact h
  | ceiling k => rwa [Line.takeCeiling_eq]
  | frame | lose | resetEngine => simpa [Line.lose, Line.resetEngine, Line.restartSilence, Line.note] using h
  | send | note | run | acknowledge | found => exact h

/-- Settles O52: the stores as the event keeps them, and a record or a line is bound to a VALID profile alone. -/
theorem storesStayInRange : Obligations.StoresStayInRange := by
  obtain ⟨ladders, profiles, -⟩ := resetMeetsTheInvariants
  refine ⟨fun s t hs e => ?_, fun s t hs e => ?_, fun s t hs e => ?_⟩
  · exact step_keeps (fun _ _ _ _ _ h => h) (fun _ _ _ _ _ => ladders) (fun _ _ h steady _ => steady.ladders h) hs e
  · exact step_keeps (fun _ _ _ _ _ h => h) (fun _ _ _ _ _ => profiles) (fun _ _ h steady _ => steady.profiles h) hs e
  · refine step_keeps (P := State.BindingsOk) (fun _ _ _ _ _ h => h) (fun _ _ _ _ _ => State.reset_bindingsOk) (fun s t h steady ev => ?_) hs e
    obtain ⟨records, lines⟩ := h
    have ev := ev False False.elim
    refine ⟨?_, fun l => (ev.lines l).keep (fun _ _ => Line.Move.bound) (steady.valid _ (lines l))⟩
    exact ev.keepRecords (P := fun r => t.isValid r.profile = true) (fun _ _ h m => m.bound h)
      (fun k r _ h => by rwa [Record.profile_succeeded]) (fun _ _ _ c => c.bound lines) fun h r hr => steady.valid _ (records h r hr)

/-! ### Generations -/

theorem Epoch.next_ne (e : Epoch) : Epoch.next e ≠ e := by
  unfold Epoch.next
  split
  next top => rw [top]; decide
  · exact fun x => absurd (add_eq_left.1 x) (by decide)

theorem Record.KeepsStep.marks {r u : Record} (m : r.KeepsStep u) (changed : u.agreed ≠ r.agreed) : u.generation ≠ r.generation := by
  obtain ⟨agreed, -⟩ | ⟨-, -, raised⟩ := m
  · exact absurd agreed changed
  · rw [raised]
    exact fun x => absurd (add_eq_left.1 x) (by decide)

/-- A success and what follows it mark a change of the agreed step by one or by two generations (R20, R95, R96). -/
theorem Record.KeepsStep.marks_succeeded {e : Env} {k : Step} {r u : Record} (m : (Record.succeeded e k r).KeepsStep u)
    (changed : u.agreed ≠ r.agreed) : u.generation ≠ r.generation := by
  rw [Record.succeeded_eq] at m
  obtain ⟨agreed, raised⟩ | ⟨-, -, raised⟩ := m
  · have other : r.agreed ≠ some k := fun x => changed (agreed.trans x.symm)
    rw [raised, if_neg other]
    exact fun x => absurd (add_eq_left.1 x) (by decide)
  · rw [raised]
    dsimp only
    split
    · exact fun x => absurd (add_eq_left.1 x) (by decide)
    · rw [BitVec.add_assoc]
      exact fun x => absurd (add_eq_left.1 x) (by decide)

/-- A turn that leaves a record in its slot with another agreed step changes its generation (R20). -/
theorem Slot.Turn.marks {g b : Prop} {e : Env} {x y : Slot} {r u : Record} (a : Slot.Turn g b e x y) (old : x.body = .live r)
    (new : y.body = .live u) (epoch : x.epoch = y.epoch) (changed : u.agreed ≠ r.agreed) : u.generation ≠ r.generation := by
  cases a with
  | moves _ m =>
    rw [old, new] at m
    obtain ⟨v, same, m⟩ := m
    cases same
    exact m.keepsStep.marks changed
  | agrees q v k _ was is _ m =>
    cases old.symm.trans was
    cases new.symm.trans is
    exact m.keepsStep.marks_succeeded changed
  | leaves q c _ _ is => cases new.symm.trans is
  | creates l st q v next => exact absurd (next.symm.trans epoch.symm) (Epoch.next_ne _)
  | clears _ is => cases new.symm.trans is
  | acknowledges l st c d _ _ is => cases new.symm.trans is

/-- Settles O60: a move that loses the agreed step raises the generation by one, a success that changes it by one more, and a
record of the same epoch is the same record. -/
theorem generationMarksTheAgreedStep : Obligations.GenerationMarksTheAgreedStep := by
  intro s t c h r u e hr hu epoch changed
  cases reset : isResetEvent c with
  | false =>
    obtain ⟨v, next, ev⟩ := exec_event (g := False) reset s
    cases e.symm.trans next
    exact ((ev False.elim).slots h).marks (s.body_of_record? hr) (t.body_of_record? hu) epoch changed
  | true =>
    cases c
    case powerOn | resetn =>
      cases e
      exact absurd ((State.reset_record? h).symm.trans hu) nofun
    case powerOnEnd | resetnRelease =>
      cases e
      cases hr.symm.trans hu
      exact absurd rfl changed
    all_goals cases reset

end Sys2Proof.Machine
end


section
/-! What the part owes on an empty queue, and time (R9, R10). -/

namespace Sys2Proof.Machine

section
variable {s : State} {h : Handle} {r : Record} {c : Instr}

/-- A record whose timer runs has an expiry of its own kind (R9). -/
theorem expiryOf_of_running {tm : Timer} (attempt : r.AttemptOk) (timer : r.TimerOk) (runs : r.timer = some tm) :
    ∃ c, expiryOf h r = some c := by
  obtain ⟨-, stopped⟩ := timer
  have running : ¬(r.state = .parked ∨ r.state = .waiting ∨ r.state = .agreed ∨ r.state = .failed) := fun x => by
    rw [stopped x] at runs
    cases runs
  unfold expiryOf
  cases state : r.state with
  | negotiating =>
    obtain ⟨a, ha⟩ := Option.isSome_iff_exists.1 (attempt.2 state)
    rw [ha]
    dsimp only
    split <;> exact ⟨_, rfl⟩
  | holdover | backoff | retiring => exact ⟨_, rfl⟩
  | agreed | waiting | parked | failed => simp [state] at running

theorem State.zeroExpiry_eq (hr : s.record? h = some r) :
    s.zeroExpiry h = if r.timer.any fun t => decide (t.duration = 0) then expiryOf h r else none := by
  unfold State.zeroExpiry
  rw [hr]

theorem State.dueExpiry_eq (hr : s.record? h = some r) : s.dueExpiry h = if s.isDue r.timer then expiryOf h r else none := by
  unfold State.dueExpiry
  rw [hr]

/-- The lowest handle with an expiry of zero duration comes before everything else (R9). -/
theorem State.nextInternal_of_zero (running : s.running = true) (owed : (List.finRange 256).findSome? s.zeroExpiry = some c) :
    s.nextInternal = some c := by
  unfold State.nextInternal
  rw [running, owed]
  rfl

/-- A part that owes nothing has no timer at its last moment. -/
theorem State.notDue_of_idle (running : s.running = true) (idle : s.nextInternal = none) :
    (∀ h, s.dueExpiry h = none) ∧ ∀ l : LineId, s.isDue s.lines[l].silence = false := by
  unfold State.nextInternal at idle
  rw [running] at idle
  simp only [Bool.not_true, Bool.false_eq_true, if_false] at idle
  split at idle
  · cases idle
  split at idle
  · cases idle
  split at idle
  · cases idle
  split at idle
  · cases idle
  split at idle
  · split at idle <;> cases idle
  split at idle
  · cases idle
  next none =>
    refine ⟨fun h => List.findSome?_eq_none_iff.1 none h (List.mem_finRange h), fun l => ?_⟩
    simpa using List.find?_eq_none.1 (Option.map_eq_none_iff.1 idle) l (List.mem_finRange l)

theorem State.isDue_eq_false {t : Option Timer} : s.isDue t = false ↔ ∀ tm ∈ t, s.now < tm.latest := by
  cases t <;> simp [State.isDue]

/-- The timers of a part that owes nothing run beyond the present moment (R10). -/
theorem State.timers_of_idle (running : s.running = true) (records : s.EveryRecord fun r => r.AttemptOk ∧ r.TimerOk)
    (idle : s.nextInternal = none) : (∀ h : Handle, ∀ r ∈ s.record? h, ∀ tm ∈ r.timer, s.now < tm.latest) ∧
      ∀ l : LineId, ∀ tm ∈ s.lines[l].silence, s.now < tm.latest := by
  obtain ⟨due, silence⟩ := State.notDue_of_idle running idle
  refine ⟨fun h r hr tm runs => ?_, fun l => State.isDue_eq_false.1 (silence l)⟩
  obtain ⟨attempt, timer⟩ := records h r hr
  obtain ⟨c, owed⟩ := expiryOf_of_running (h := h) attempt timer runs
  have notDue := due h
  rw [State.dueExpiry_eq hr, owed] at notDue
  exact State.isDue_eq_false.1 (by simpa using notDue) tm runs

theorem step_of_owed (empty : s.pending = []) (owed : s.nextInternal = some c) : step s = exec c s := by
  unfold step
  rw [empty, owed]

theorem step_of_idle (empty : s.pending = []) (idle : s.nextInternal = none) : step s = .next s.tick := by
  unfold step
  rw [empty]
  dsimp only
  rw [idle]

theorem expiryOf_inOffered (offered : r.inOffered = true) : expiryOf h r = some (.negotiationTimerExpiry h) := by
  simp only [Record.inOffered, Bool.and_eq_true, decide_eq_true_eq, Option.any_eq_true] at offered
  obtain ⟨state, a, attempt, phase⟩ := offered
  unfold expiryOf
  rw [state, attempt]
  exact if_pos phase

theorem expiryOf_inOrdered (ordered : r.inOrdered = true) : expiryOf h r = some (.confirmTimerExpiry h) := by
  simp only [Record.inOrdered, Bool.and_eq_true, decide_eq_true_eq, Option.any_eq_true] at ordered
  obtain ⟨state, a, attempt, phase⟩ := ordered
  unfold expiryOf
  rw [state, attempt]
  exact if_neg phase

theorem expiryOf_state {st : RecState} (state : r.state = st) : expiryOf h r = expiryOf h { r with state := st } := by
  subst state; rfl

/-- The expiry of zero duration that a slot owes is its record's. -/
theorem State.record_of_zeroExpiry (owed : s.zeroExpiry h = some c) :
    ∃ r ∈ s.record? h, (∃ tm ∈ r.timer, tm.duration = 0) ∧ expiryOf h r = some c := by
  unfold State.zeroExpiry at owed
  split at owed
  next r hr =>
    split at owed
    next ends =>
      obtain ⟨tm, runs, zero⟩ := (Option.any_eq_true _ _).1 ends
      exact ⟨r, hr, ⟨tm, runs, of_decide_eq_true zero⟩, owed⟩
    · cases owed
  · cases owed

/-- A zero duration somewhere is the next event (R9). -/
theorem State.zeroExpiry_next (records : s.EveryRecord fun r => r.AttemptOk ∧ r.TimerOk) (running : s.running = true)
    (waits : ∃ h : Handle, ∃ r ∈ s.record? h, ∃ tm ∈ r.timer, tm.duration = 0) :
    ∃ h c, s.zeroExpiry h = some c ∧ s.nextInternal = some c := by
  obtain ⟨h, r, hr, tm, runs, zero⟩ := waits
  obtain ⟨attempt, timer⟩ := records h r hr
  obtain ⟨c, expiry⟩ := expiryOf_of_running (h := h) attempt timer runs
  have owes : s.zeroExpiry h = some c := by
    rw [State.zeroExpiry_eq hr, show r.timer = some tm from runs, expiry]
    simp [zero]
  obtain ⟨d, first⟩ := Option.isSome_iff_exists.1
    (List.findSome?_isSome_iff.2 ⟨h, List.mem_finRange h, Option.isSome_iff_exists.2 ⟨c, owes⟩⟩)
  obtain ⟨k, -, owed⟩ := List.exists_of_findSome?_eq_some first
  exact ⟨k, d, owed, State.nextInternal_of_zero running first⟩

/-- Settles O2: the part's next event is a match on what it owes, and a zero duration is looked for first. -/
theorem stepOnEmptyQueue : Obligations.StepOnEmptyQueue := by
  intro s empty running records
  refine ⟨fun c => step_of_owed empty, fun idle => ⟨?_, State.timers_of_idle running records idle⟩, fun waits => ?_⟩
  · rw [step_of_idle empty idle]
    rfl
  · obtain ⟨h, c, owed, next⟩ := State.zeroExpiry_next records running waits
    obtain ⟨r, hr, zero, expiry⟩ := State.record_of_zeroExpiry owed
    rw [next]
    refine ⟨h, r, hr, zero, fun offered => ?_, fun ordered => ?_, fun state => ?_, fun state => ?_, fun state => ?_⟩
    · rw [← expiry, expiryOf_inOffered offered]
    · rw [← expiry, expiryOf_inOrdered ordered]
    all_goals rw [← expiry, expiryOf_state state]; rfl

end

end Sys2Proof.Machine
end


section
/-! Slots, lines and the held part, step by step (R1, R2, R22, R60, R65, R74, R169). -/

namespace Sys2Proof.Machine

/-! ### Slots -/

theorem Epoch.next_ne_zero (e : Epoch) : Epoch.next e ≠ 0 := by
  unfold Epoch.next
  split
  · decide
  · next other => exact fun zero => other (by bv_omega)

/-- A slot keeps its epoch, its change and the absence of RETIRED through its turn (R1, R2, R22). -/
theorem Slot.Turn.ok {g b : Prop} {e : Env} {x y : Slot} (a : Slot.Turn g b e x y) (ok : x.Ok) : y.Ok := by
  obtain ⟨epoch, change, retired⟩ := ok
  have live : ∀ u, y.body = .live u → u.NotRetired := by
    refine a.keep (fun _ _ h m => m.notRetired h) (fun _ _ _ h => Record.notRetired_succeeded h) (fun _ _ _ c => c.notRetired) ?_
    intro r hr
    have := retired (by rw [hr]; rfl)
    rwa [hr] at this
  have marked : y.body.isLive = true → y.body.changes.getLsbD 4 = false := fun h => by
    cases hb : y.body with
    | live u => exact live u hb
    | free | vacated => rw [hb] at h; cases h
  cases a with
  | moves same m =>
    refine ⟨fun full => ?_, fun vacated => ?_, marked⟩
    · rw [same]
      refine epoch ?_
      cases hb : x.body with
      | free => rw [hb] at m; rw [m] at full; cases full
      | live | vacated => rfl
    · cases hb : x.body with
      | vacated l st c => rw [hb] at m change; rw [m]; exact change rfl
      | free => rw [hb] at m; rw [m] at vacated; cases vacated
      | live r =>
        rw [hb] at m
        obtain ⟨u, hu, -⟩ := m
        rw [hu] at vacated
        cases vacated
  | agrees r u k same old new =>
    refine ⟨fun _ => ?_, fun vacated => ?_, marked⟩
    · rw [same]; exact epoch (by rw [old]; rfl)
    · rw [new] at vacated; cases vacated
  | leaves r c same old new set =>
    refine ⟨fun _ => ?_, fun _ => ?_, marked⟩
    · rw [same]; exact epoch (by rw [old]; rfl)
    · rw [new]; exact set
  | creates l st r u same old new =>
    refine ⟨fun _ => ?_, fun vacated => ?_, marked⟩
    · rw [same]; exact Epoch.next_ne_zero _
    · rw [new] at vacated; cases vacated
  | clears same new =>
    refine ⟨fun full => ?_, fun vacated => ?_, marked⟩
    · rw [new] at full; cases full
    · rw [new] at vacated; cases vacated
  | acknowledges l st c d same old new set =>
    refine ⟨fun _ => ?_, fun _ => ?_, marked⟩
    · rw [same]; exact epoch (by rw [old]; rfl)
    · rw [new]; exact set

theorem step_slotsOk {s t : State} (ok : s.SlotsOk) (e : step s = .next t) : t.SlotsOk := by
  obtain ⟨-, -, -, -, slots, -⟩ := resetMeetsTheInvariants
  exact step_keeps (fun _ _ _ _ _ h => h) (fun _ _ _ _ _ => slots) (fun _ _ h _ ev k => ((ev False False.elim).slots k).ok (h k)) ok e

/-! ### Lines -/

theorem Line.Move.ok {e : Env} {x y : Line} (h : x.Ok) (m : Line.Move e x y) : y.Ok := by
  obtain ⟨quota, least, longest, run, queue, silence⟩ := h
  cases m with
  | send f room => exact ⟨quota, least, longest, run, by simp; omega, silence⟩
  | frame st known =>
    rw [Line.enter_eq]
    exact ⟨quota, least, longest, Nat.zero_le _, queue, by simp [Line.restartSilence, known]⟩
  | ceiling k => rw [Line.takeCeiling_eq]; exact ⟨quota, least, longest, run, queue, silence⟩
  | run n bound => exact ⟨quota, least, longest, bound, queue, silence⟩
  | lose =>
    rw [Line.lose, Line.enter_eq]
    exact ⟨quota, least, longest, run, queue, by simp [Line.note]⟩
  | config q md p k most valid least' longest' => exact ⟨most, least', longest', run, queue, silence⟩
  | resetEngine =>
    rw [Line.resetEngine, Line.enter_eq]
    exact ⟨quota, least, longest, Nat.zero_le _, by simp [Line.restartSilence, Config.txQueueDepth], by simp [Line.restartSilence]⟩
  | begin =>
    unfold Line.beginFrame
    split
    · exact ⟨quota, least, longest, run, queue, silence⟩
    next f rest e =>
      rw [e, List.length_cons] at queue
      exact ⟨quota, least, longest, run, by dsimp only; omega, silence⟩
  | note | acknowledge | found => exact ⟨quota, least, longest, run, queue, silence⟩

theorem step_linesOk {s t : State} (ok : s.LinesOk) (e : step s = .next t) : t.LinesOk := by
  obtain ⟨-, -, -, -, -, lines, -⟩ := resetMeetsTheInvariants
  exact step_keeps (fun _ _ _ _ _ h => h) (fun _ _ _ _ _ => lines)
    (fun _ _ h _ ev k => ((ev False False.elim).lines k).keep (fun _ _ => Line.Move.ok) (h k)) ok e

end Sys2Proof.Machine
end


section
/-! The held part, the timers and the lanes, step by step (R9, R10, R62, R136, R169, R171 to R173). -/

namespace Sys2Proof.Machine

/-! ### The held part (R169) -/

theorem step_heldOk {s t : State} (ok : s.HeldOk) (e : step s = .next t) : t.HeldOk := by
  intro held
  obtain ⟨s', same, steady, unchanged, -⟩ | reset | ⟨around, held', -⟩ := step_cases e
  · have held : s'.running = false := by
      rw [State.running, steady.poweringOn, steady.resetLow] at held
      exact held
    rw [unchanged held, same]
    rw [same] at held
    exact congrArg (fun x : State => { x with pending := s'.pending }) (ok held)
  · refine reset.trans ?_
    rw [show t.spi.cut = s.spi.cut from by rw [reset]; exact Spi.cut_cut _, show t.now = s.now from by rw [reset]]
  · refine around.trans ?_
    rw [show t.spi = s.spi from by rw [around]]
    exact congrArg (fun x : State => { x with
      poweringOn := t.poweringOn, resetLow := t.resetLow, now := t.now, pending := t.pending }) (ok (held' held))

/-! ### Timers (R9, R10) -/

theorem Timer.latest_eq (tm : Timer) :
    tm.latest = tm.start + tm.duration + if tm.duration = 0 then 0 else 1 + tm.duration / 1000 := rfl

theorem Line.Move.inTime {e : Env} {x y : Line} (h : ∀ tm ∈ x.silence, tm.InTime e.now) (m : Line.Move e x y) :
    ∀ tm ∈ y.silence, tm.InTime e.now := by
  have started : ∀ n, Timer.InTime e.now { start := e.now, duration := n } := fun n => Timer.inTime_start e.now _ rfl
  cases m with
  | frame | resetEngine => simpa [Line.resetEngine, Line.restartSilence] using started _
  | ceiling k => rwa [Line.takeCeiling_eq]
  | lose => simp [Line.lose, Line.note]
  | begin =>
    unfold Line.beginFrame
    split <;> exact h
  | send | note | run | config | acknowledge | found => exact h

/-- A millisecond passes only where no timer has reached its last moment (R10). -/
theorem Timer.InTime.tick {now : Nat} {tm : Timer} (h : tm.InTime now) (runs : now < tm.latest) : tm.InTime (now + 1) :=
  ⟨by have := h.1; omega, runs⟩

/-- The reset values hold no running timer. -/
theorem State.timersInTime_of_reset {s : State} (slots : s.slots = State.reset.slots) (lines : s.lines = State.reset.lines) :
    s.TimersInTime := by
  refine ⟨fun h r hr => ?_, fun l => ?_⟩
  · unfold State.record? at hr
    rw [slots, State.reset_slot] at hr
    cases hr
  · rw [lines, State.reset_line]
    simp [Line.reset]

theorem step_timersInTime {s t : State} (held : s.HeldOk) (records : s.EveryRecord fun r => r.AttemptOk ∧ r.TimerOk)
    (ok : s.TimersInTime) (e : step s = .next t) : t.TimersInTime := by
  obtain ⟨s', same, steady, -, ev⟩ | reset | ⟨around, -, time⟩ := step_cases e
  · have ok' : s'.TimersInTime := by rw [same]; exact ok
    obtain ⟨inRecords, inLines⟩ := ok'
    have ev := ev False False.elim
    have now : t.env.now = s'.now := steady.now
    rw [← now] at inRecords inLines
    exact ⟨ev.keepRecords (P := fun r => r.InTime t.env.now) (fun _ _ h m => m.inTime h)
        (fun k r _ _ => Record.inTime_succeeded _ k r _) (fun _ _ _ c => c.inTime) inRecords,
      fun l => (ev.lines l).keep (P := fun x => ∀ tm ∈ x.silence, tm.InTime t.env.now) (fun _ _ => Line.Move.inTime) (inLines l)⟩
  · exact State.timersInTime_of_reset (by rw [reset]) (by rw [reset])
  · obtain now | ⟨now, idle⟩ := time
    · rw [around, now]; exact ok
    · cases running : s.running with
      | false =>
        have reset := held running
        exact State.timersInTime_of_reset (by rw [around, reset]) (by rw [around, reset])
      | true =>
        obtain ⟨inRecords, inLines⟩ := ok
        obtain ⟨notDue, notSilent⟩ := State.timers_of_idle running records idle
        rw [around, now]
        exact ⟨fun h r hr tm runs => (inRecords h r hr tm runs).tick (notDue h r hr tm runs),
          fun l tm runs => (inLines l tm runs).tick (notSilent l tm runs)⟩

/-! ### Lanes (R62, R136, R171 to R173) -/

theorem Line.Move.lanesOk {e : Env} {x y : Line} (h : x.LanesOk) (m : Line.Move e x y) : y.LanesOk := by
  obtain ⟨bytes, bits, high, sent, idle⟩ := h
  cases m with
  | frame st => rw [Line.enter_eq]; exact ⟨bytes, bits, high, sent, idle⟩
  | ceiling k => rw [Line.takeCeiling_eq]; exact ⟨bytes, bits, high, sent, idle⟩
  | lose => rw [Line.lose, Line.enter_eq]; exact ⟨bytes, bits, high, sent, idle⟩
  | resetEngine => rw [Line.resetEngine, Line.enter_eq]; exact ⟨bytes, bits, high, sent, idle⟩
  | begin =>
    unfold Line.beginFrame
    split
    · exact ⟨bytes, bits, high, Nat.zero_lt_succ _, fun _ => rfl⟩
    · exact ⟨bytes, bits, high, Nat.zero_lt_succ _, fun _ => rfl⟩
  | send | note | run | config | acknowledge | found => exact ⟨bytes, bits, high, sent, idle⟩

/-- An event changes no lane but by its line and lookup moves, and the SPI port not at all. -/
theorem State.lanesOk_event {s t : State} (steady : s.Steady t) (ev : State.EventFrom False s t) (ok : s.LanesOk) : t.LanesOk := by
  obtain ⟨lines, lookup, spi⟩ := ok
  refine ⟨fun l => ((ev False.elim).lines l).keep (fun _ _ => Line.Move.lanesOk) (lines l), steady.lookup lookup, ?_⟩
  rwa [steady.spi]

theorem Spi.wordOk_cut (x : Spi) : x.cut.WordOk := by
  rw [Spi.cut_eq]
  split <;> simp [Spi.WordOk]

theorem step_lanesOk {s t : State} (ok : s.LanesOk) (e : step s = .next t) : t.LanesOk := by
  obtain ⟨s', same, steady, -, ev⟩ | reset | ⟨around, -⟩ := step_cases e
  · exact State.lanesOk_event steady (ev False) (by rw [same]; exact ok)
  · obtain ⟨-, -, -, -, -, -, -, -, -, -, -, -, ⟨lines, lookup, -⟩, -⟩ := resetMeetsTheInvariants
    rw [reset]
    exact ⟨lines, lookup, Spi.wordOk_cut _⟩
  · rw [around]; exact ok

/-- A command that the lanes or the SPI port complete leaves less than the whole of the next. -/
theorem exec_lanesOk {s t : State} {c : Instr} (notReset : isResetEvent c = false) (ok : s.LanesOk) (e : exec c s = .next t) :
    t.LanesOk := by
  obtain ⟨u, next, steady⟩ := exec_steady s notReset
  obtain ⟨v, next', ev⟩ := exec_event (g := False) notReset s
  cases e.symm.trans next
  cases e.symm.trans next'
  exact State.lanesOk_event steady ev ok

theorem State.lanesOk_modLine {s : State} {l : LineId} {f : Line → Line} (ok : s.LanesOk) (line : (f s.lines[l]).LanesOk) :
    (s.modLine l f).LanesOk := by
  obtain ⟨lines, lookup, spi⟩ := ok
  refine ⟨fun k => ?_, lookup, spi⟩
  rw [State.line_modLine]
  split
  next same => subst same; exact line
  · exact lines k

theorem notReset_upwardFrame {l : LineId} {type : BitVec 4} {st : Station} {hi lo : Byte} {c : Instr}
    (e : upwardFrame l type st hi lo = some c) : isResetEvent c = false := by
  unfold upwardFrame at e
  split at e
  case h_1 =>
    split at e
    · cases e; rfl
    split at e
    · obtain ⟨k, -, rfl⟩ := Option.map_eq_some_iff.1 e
      rfl
    · cases e
  case h_5 =>
    obtain ⟨k, -, rfl⟩ := Option.map_eq_some_iff.1 e
    rfl
  case h_2 | h_7 => cases e; rfl
  case h_3 => split at e <;> cases e; rfl
  case h_4 | h_6 =>
    split at e
    · cases e; rfl
    split at e <;> cases e; rfl
  case h_8 => cases e

theorem notReset_classifyFrame (l : LineId) (bytes : List Byte) : isResetEvent (classifyFrame l bytes) = false := by
  unfold classifyFrame
  split
  next b0 b1 b2 b3 c =>
    split
    · cases e : upwardFrame l (b0.extractLsb' 4 4) (b0.extractLsb' 0 4 ++ b1) b2 b3 with
      | none => rfl
      | some c => exact notReset_upwardFrame e
    · rfl
  · rfl

theorem notReset_classifyQuery (bytes : List Byte) : isResetEvent (classifyQuery bytes) = false := by
  unfold classifyQuery
  split
  · dsimp only
    split
    · split
      case h_5 => rfl
      all_goals split <;> rfl
    · rfl
  · rfl
  · rfl

theorem State.reportByte_lanesOk {s t : State} {l : LineId} {b : Byte} (ok : s.LanesOk) (e : s.reportByte l b = .next t) :
    t.LanesOk := by
  obtain ⟨bytes, bits, high, sent, idle⟩ := ok.1 l
  obtain ⟨-, same⟩ | ⟨-, short, same⟩ | ⟨-, -, same⟩ := s.reportByte_cases l b
  · cases e.symm.trans same; exact ok
  · cases e.symm.trans same
    refine State.lanesOk_modLine ok ⟨?_, bits, high, sent, idle⟩
    simp only [List.length_append, List.length_singleton]
    omega
  · refine exec_lanesOk (notReset_classifyFrame _ _) ?_ (same.symm.trans e)
    exact State.lanesOk_modLine ok ⟨Nat.zero_lt_succ _, bits, high, sent, idle⟩

theorem State.reportIdle_lanesOk {s t : State} {l : LineId} (ok : s.LanesOk) (e : s.reportIdle l = .next t) : t.LanesOk := by
  obtain ⟨bytes, bits, high, sent, idle⟩ := ok.1 l
  obtain ⟨-, same⟩ | ⟨-, -, same⟩ | ⟨-, -, same⟩ := s.reportIdle_cases l
  · exact exec_lanesOk (c := .idleOfTwoByteTimes (.report l)) rfl ok (same.symm.trans e)
  · cases e.symm.trans same; exact ok
  · refine exec_lanesOk (notReset_classifyFrame _ _) ?_ (same.symm.trans e)
    exact State.lanesOk_modLine ok ⟨Nat.zero_lt_succ _, bits, high, sent, idle⟩

theorem State.reportLevel_lanesOk {s t : State} {l : LineId} {b : Bool} (ok : s.LanesOk) (e : s.reportLevel l b = .next t) :
    t.LanesOk := by
  obtain ⟨bytes, -, -, sent, idle⟩ := ok.1 l
  obtain ⟨-, same⟩ | ⟨bits, high, most, eight, received⟩ := s.reportLevel_cases l b
  · cases e.symm.trans same; exact ok
  · have heard : (s.modLine l fun ln => { ln with rxBits := bits, rxHigh := high }).LanesOk :=
      State.lanesOk_modLine ok ⟨bytes, eight, most, sent, idle⟩
    obtain same | same | ⟨data, -, same⟩ := received
    · cases e.symm.trans same; exact heard
    · exact State.reportIdle_lanesOk heard (same.symm.trans e)
    · exact State.reportByte_lanesOk heard (same.symm.trans e)

theorem State.reportTxNext_lanesOk {s t : State} {l : LineId} (ok : s.LanesOk) (e : s.reportTxNext l = .next t) : t.LanesOk := by
  obtain ⟨bytes, bits, high, -, -⟩ := ok.1 l
  obtain ⟨-, same⟩ | ⟨f, sending, ⟨-, same⟩ | ⟨-, more, same⟩ | ⟨-, -, same⟩⟩ := s.reportTxNext_cases l
  · exact exec_lanesOk (c := .frameTransmission l) rfl ok (same.symm.trans e)
  · cases e.symm.trans same; exact ok
  · cases e.symm.trans same
    refine State.lanesOk_modLine ok ⟨bytes, bits, high, by dsimp only; omega, fun none => ?_⟩
    exact absurd (sending.symm.trans none) nofun
  · exact exec_lanesOk (c := .frameTransmissionComplete l) rfl ok (same.symm.trans e)

theorem State.lookupByte_lanesOk {s t : State} {b : Byte} (ok : s.LanesOk) (e : s.lookupByte b = .next t) : t.LanesOk := by
  obtain ⟨lines, ⟨bytes, bits, sent, idle⟩, spi⟩ := ok
  unfold State.lookupByte at e
  dsimp only at e
  split at e
  · cases e; exact ⟨lines, ⟨bytes, bits, sent, idle⟩, spi⟩
  split at e
  next short => cases e; exact ⟨lines, ⟨short, bits, sent, idle⟩, spi⟩
  · refine exec_lanesOk (notReset_classifyQuery _) ?_ e
    exact ⟨lines, ⟨Nat.zero_lt_succ _, bits, sent, idle⟩, spi⟩

theorem State.lookupIdleBegins_lanesOk {s t : State} (ok : s.LanesOk) (e : s.lookupIdleBegins = .next t) : t.LanesOk := by
  obtain ⟨lines, ⟨bytes, bits, sent, idle⟩, spi⟩ := ok
  unfold State.lookupIdleBegins at e
  split at e
  · exact exec_lanesOk (c := .idleOfTwoByteTimes .lookup) rfl ⟨lines, ⟨bytes, bits, sent, idle⟩, spi⟩ e
  split at e
  · cases e; exact ⟨lines, ⟨bytes, bits, sent, idle⟩, spi⟩
  · refine exec_lanesOk (notReset_classifyQuery _) ?_ e
    exact ⟨lines, ⟨Nat.zero_lt_succ _, bits, sent, idle⟩, spi⟩

theorem State.lookupLevel_lanesOk {s t : State} {b : Bool} {ahead : List Bool} (ok : s.LanesOk)
    (e : s.lookupLevel b ahead = .next t) : t.LanesOk := by
  obtain ⟨-, same⟩ | ⟨-, -, same⟩ | ⟨bits, eight, received⟩ := s.lookupLevel_cases b ahead
  · cases e.symm.trans same; exact ok
  · exact State.lookupIdleBegins_lanesOk ok (same.symm.trans e)
  · obtain ⟨lines, ⟨bytes, -, sent, idle⟩, spi⟩ := ok
    have heard : ({ s with lookup := { s.lookup with rxBits := bits } } : State).LanesOk :=
      ⟨lines, ⟨bytes, eight, sent, idle⟩, spi⟩
    obtain same | ⟨data, -, same⟩ := received
    · cases e.symm.trans same; exact heard
    · exact State.lookupByte_lanesOk heard (same.symm.trans e)

theorem State.lookupTxNext_lanesOk {s t : State} (ok : s.LanesOk) (e : s.lookupTxNext = .next t) : t.LanesOk := by
  obtain ⟨-, same⟩ | ⟨a, answer, ⟨-, same⟩ | ⟨-, more, same⟩ | ⟨-, -, same⟩⟩ := s.lookupTxNext_cases
  · cases e.symm.trans same; exact ok
  · cases e.symm.trans same; exact ok
  · cases e.symm.trans same
    obtain ⟨lines, ⟨bytes, bits, -, -⟩, spi⟩ := ok
    exact ⟨lines, ⟨bytes, bits, by dsimp only; omega, fun none => absurd (answer.symm.trans none) nofun⟩, spi⟩
  · exact exec_lanesOk (c := .answerSent) rfl ok (same.symm.trans e)

/-- A word of the SPI port is taken at its sixteenth bit (R173). -/
theorem State.spiClock_lanesOk {s t : State} {b : Bool} (ok : s.LanesOk) (e : s.spiClock b = .next t) : t.LanesOk := by
  have port : ∀ x : Spi, x.WordOk → ({ s with spi := x } : State).LanesOk := fun x word => ⟨ok.1, ok.2.1, word⟩
  unfold State.spiClock at e
  split at e
  · cases e; exact ok
  · cases e; exact ok
  next bits _ =>
    dsimp only at e
    split at e
    next short => cases e; exact port _ (by simp only [Spi.WordOk]; simpa using short)
    · cases e
      refine port _ ?_
      split <;> simp [Spi.WordOk]
  next a bits _ =>
    dsimp only at e
    split at e
    next short => cases e; exact port _ (by simp only [Spi.WordOk]; simpa using short)
    · exact exec_lanesOk (c := .registerWrite a (wordOfBits (bits ++ [b]))) rfl (port (.writing (spiNext a) []) (by simp [Spi.WordOk])) e
  · cases e
    refine port _ ?_
    split
    next more => simpa [Spi.WordOk] using more
    · simp [Spi.WordOk]

/-- Settles O54: each part by its own step lemma; the time base moves only where no timer is at its last moment. -/
theorem slotsAndLinesStayWellFormed : Obligations.SlotsAndLinesStayWellFormed := by
  refine ⟨fun _ _ => step_slotsOk, fun _ _ => step_linesOk, fun _ _ => step_heldOk,
    ⟨Timer.latest_eq, fun _ _ => step_timersInTime⟩, fun s t ok => ⟨step_lanesOk ok, fun l => ⟨fun b => ?_, ?_⟩, fun b ahead => ?_,
      ?_, fun b => ?_⟩⟩
  · exact State.reportLevel_lanesOk ok
  · exact State.reportTxNext_lanesOk ok
  · exact State.lookupLevel_lanesOk ok
  · exact State.lookupTxNext_lanesOk ok
  · exact State.spiClock_lanesOk ok

end Sys2Proof.Machine
end


section
/-! FIND and the argument checks of the host commands (R24, R162, R163). -/

namespace Sys2Proof.Machine

/-- A host command that completes at once and changes nothing answers the state as it stood. -/
theorem exec_unchanged {c : Instr} {code : Word} {args res : List Word} {status : Status} {s : State}
    (host : hostCommand? c = some (code, args)) (ready : s.ready)
    (e : commandOf code (s.started code args) = .done (s.started code args) status res) :
    exec c s = .next (s.answered code args status res) := by
  rw [exec_hostCommand host, State.issue_unchanged ready e]

/-- A host command whose owner changes the table, the lines and the arbiters alone answers that change. -/
theorem exec_answers {c : Instr} {code : Word} {args res : List Word} {status : Status} {s u : State}
    (host : hostCommand? c = some (code, args)) (ready : s.ready) (o : s.Outer u)
    (e : commandOf code (s.started code args) = .done (u.withRest (s.startedRest code args)) status res) :
    exec c s = .next (u.answered code args status res) := by
  rw [exec_hostCommand host, State.issue_answers ready o e]

/-! ### FIND -/

/-- Where keys are unique, the record of a key is the one the table finds (R12). -/
theorem State.findKey_of_hasRecord {s : State} {h : Handle} {r : Record} {l : LineId} {st : Station} (unique : s.KeysUnique)
    (has : s.hasRecord h r l st) : s.findKey l st = some h := by
  obtain ⟨hr, rfl, rfl⟩ := has
  exact unique h r hr

theorem State.findKey_of_notLive {s : State} {l : LineId} {st : Station} (fresh : ¬s.keyLive l st) : s.findKey l st = none :=
  State.findKey_none.2 fun h r hr same => fresh ⟨h, r, hr, same⟩

theorem State.keyLive_iff {s : State} {l : LineId} {st : Station} : s.keyLive l st ↔ (s.findKey l st).isSome = true := by
  constructor
  · rintro ⟨h, r, hr, same⟩
    by_contra none
    exact State.findKey_none.1 (Option.not_isSome_iff_eq_none.1 none) h r hr same
  · intro found
    obtain ⟨h, found⟩ := Option.isSome_iff_exists.1 found
    obtain ⟨r, hr, same⟩ := State.findKey_some found
    exact ⟨h, r, hr, same⟩

/-- Settles O16: FIND reads its two words and the key they name. -/
theorem findReturnsTheRecordOfAKey : Obligations.FindReturnsTheRecordOfAKey := by
  intro s l st ready
  refine ⟨fun h r unique has => ?_, fun fresh => ?_⟩
  · refine exec_unchanged rfl ready ?_
    show cmdFind _ = _
    simp [cmdFind, State.findKey_of_hasRecord unique has, has.1]
  · refine exec_unchanged rfl ready ?_
    show cmdFind _ = _
    simp [cmdFind, State.findKey_of_notLive fresh]

end Sys2Proof.Machine
end


section
/-! Arguments out of range, and pairs that name no record or a RETIRING one (R3, R162, R163). -/

namespace Sys2Proof.Machine

/-! ### The ranges the argument words are read in (R163) -/

theorem Word.below_lt {n : Nat} {w : Word} {k : Fin n} (e : Word.below n w = some k) : w.toNat < n := by
  by_contra high
  rw [Word.below_none (by omega)] at e
  cases e

theorem Word.twelve?_lt {w : Word} {e : BitVec 12} (h : Word.twelve? w = some e) : w.toNat < 4096 := by
  unfold Word.twelve? at h
  split at h
  · omega
  · cases h

theorem Word.kinds?_lt {w : Word} {k : BitVec 5} (h : Word.kinds? w = some k) : w.toNat < 32 := by
  unfold Word.kinds? at h
  split at h
  · assumption
  · cases h

theorem Word.step?_range {w : Word} {k : Step} (h : Word.step? w = some k) : 1 ≤ w.toNat ∧ w.toNat < 13 := by
  unfold Word.step? at h
  split at h
  · omega
  · cases h

theorem Word.inRange?_range {lo hi : Nat} {w : Word} {k : Nat} (h : Word.inRange? lo hi w = some k) :
    lo ≤ w.toNat ∧ w.toNat ≤ hi := by
  unfold Word.inRange? at h
  split at h
  · assumption
  · cases h

theorem Grace.ofWord?_range {w : Word} {g : Grace} (h : Grace.ofWord? w = some g) : w.toNat ≤ 6000 ∨ w.toNat = 0xFFFF := by
  unfold Grace.ofWord? at h
  split at h
  next low => exact .inl low
  split at h
  next all => subst all; exact .inr rfl
  · cases h

theorem graceArg?_range {w : Word} {g : Option Grace} (h : graceArg? w = some g) : w.toNat ≤ 6000 ∨ 0xFFFE ≤ w.toNat := by
  unfold graceArg? at h
  split at h
  next default => subst default; exact .inr (le_refl _)
  · obtain ⟨x, hx, -⟩ := Option.map_eq_some_iff.1 h
    have := Grace.ofWord?_range hx
    omega

/-- A field takes the values in its range alone (R32). -/
theorem Profile.withField?_range {p q : Profile} {n w : Word} {k : Fin 14} (field : Word.below 14 n = some k)
    (written : p.withField? k w = some q) : hostArgsInRange (.profileStage n w) = true := by
  have number : n.toNat = k.val := by
    rw [Word.below_some (Word.below_lt field)] at field
    exact congrArg Fin.val (Option.some.inj field)
  unfold hostArgsInRange
  dsimp only
  rw [number]
  unfold Profile.withField? at written
  split at written
  case h_1 =>
    split at written
    next low => exact decide_eq_true low
    · cases written
  all_goals
    obtain ⟨x, read, -⟩ := Option.map_eq_some_iff.1 written
    refine decide_eq_true ?_
  case h_2 | h_3 => have := Word.step?_range read; omega
  case h_4 | h_5 => have := Word.below_lt read; omega
  case h_13 => exact Grace.ofWord?_range read
  case h_14 => exact Word.kinds?_lt read
  all_goals have := Word.inRange?_range read; omega


/-- A command whose arguments are not all in range is refused with BAD_ARG (R163). -/
theorem exec_badArg {c : Instr} {code : Word} {args : List Word} {s : State} (host : hostCommand? c = some (code, args))
    (known : ∀ w, c ≠ .unknownCommand w) (bad : ¬hostArgsInRange c = true) (ready : s.ready) :
    exec c s = .next (s.answered code args .badArg []) := by
  refine exec_unchanged host ready ?_
  cases c
  all_goals cases host
  case admitRecord l st p =>
    show cmdAdmit _ = _
    unfold cmdAdmit
    simp only [State.started_arg]
    split
    next hl hst hp => exact (bad (decide_eq_true ⟨Word.below_lt hl, Word.twelve?_lt hst, Word.below_lt hp⟩)).elim
    · rfl
  case find l st =>
    show cmdFind _ = _
    unfold cmdFind
    simp only [State.started_arg]
    split
    next hl hst => exact (bad (decide_eq_true ⟨Word.below_lt hl, Word.twelve?_lt hst⟩)).elim
    · rfl
  case read h =>
    show cmdRead _ = _
    unfold cmdRead
    simp only [State.started_arg]
    split
    next hh => exact (bad (decide_eq_true (Word.below_lt hh))).elim
    · rfl
  case rebind h e p =>
    show cmdRebind _ = _
    unfold cmdRebind
    simp only [State.started_arg]
    split
    next hh he hp => exact (bad (decide_eq_true ⟨Word.below_lt hh, Word.twelve?_lt he, Word.below_lt hp⟩)).elim
    · rfl
  case cap h e k =>
    show cmdCap _ = _
    unfold cmdCap
    simp only [State.started_arg]
    split
    next hh he hk => exact (bad (decide_eq_true ⟨Word.below_lt hh, Word.twelve?_lt he, Word.below_lt hk⟩)).elim
    · rfl
  case renegotiate h e =>
    show cmdRenegotiate _ = _
    unfold cmdRenegotiate
    simp only [State.started_arg]
    split
    next hh he => exact (bad (decide_eq_true ⟨Word.below_lt hh, Word.twelve?_lt he⟩)).elim
    · rfl
  case retire h e g =>
    show cmdRetire _ = _
    unfold cmdRetire
    simp only [State.started_arg]
    split
    next hh he hg => exact (bad (decide_eq_true ⟨Word.below_lt hh, Word.twelve?_lt he, graceArg?_range hg⟩)).elim
    · rfl
  case ackChange h e k =>
    show cmdAckChange _ = _
    unfold cmdAckChange
    simp only [State.started_arg]
    split
    next hh he hk => exact (bad (decide_eq_true ⟨Word.below_lt hh, Word.twelve?_lt he, Word.kinds?_lt hk⟩)).elim
    · rfl
  case profileRead n f =>
    show cmdProfileRead _ = _
    unfold cmdProfileRead
    simp only [State.started_arg]
    split
    next hn hf => exact (bad (decide_eq_true ⟨Word.below_lt hn, Word.below_lt hf⟩)).elim
    · rfl
  case ladderWrite l k r f =>
    show cmdLadderWrite _ = _
    unfold cmdLadderWrite
    simp only [State.started_arg]
    split
    next hl hk hr hf => exact (bad (decide_eq_true ⟨Word.below_lt hl, Word.step?_range hk, Word.below_lt hr, Word.below_lt hf⟩)).elim
    · rfl
  case ladderRead l k =>
    show cmdLadderRead _ = _
    unfold cmdLadderRead
    simp only [State.started_arg]
    split
    next hl hk => exact (bad (decide_eq_true ⟨Word.below_lt hl, Word.step?_range hk⟩)).elim
    · rfl
  case lineConfig l q m p k =>
    show cmdLineConfig _ = _
    unfold cmdLineConfig
    simp only [State.started_arg]
    split
    next hl hq hm hp hk => exact (bad (decide_eq_true ⟨Word.below_lt hl, (Word.inRange?_range hq).2, Word.below_lt hm, Word.below_lt hp,
      (Word.inRange?_range hk).1, Nat.lt_succ_of_le (Word.inRange?_range hk).2⟩)).elim
    · rfl
  case lineRead l =>
    show cmdLineRead _ = _
    unfold cmdLineRead
    simp only [State.started_arg]
    split
    next hl => exact (bad (decide_eq_true (Word.below_lt hl))).elim
    · rfl
  case lineReset l =>
    show cmdLineReset _ = _
    unfold cmdLineReset
    simp only [State.started_arg]
    split
    next hl => exact (bad (decide_eq_true (Word.below_lt hl))).elim
    · rfl
  case lineAck l k =>
    show cmdLineAck _ = _
    unfold cmdLineAck
    simp only [State.started_arg]
    split
    next hl hk => exact (bad (decide_eq_true ⟨Word.below_lt hl, Word.kinds?_lt hk⟩)).elim
    · rfl
  case nextChange h =>
    show cmdNextChange _ = _
    unfold cmdNextChange
    simp only [State.started_arg]
    split
    · rfl
    next hh => exact (bad (decide_eq_true (Word.below_lt hh))).elim
  case profileLoad n =>
    show cmdProfileLoad _ = _
    unfold cmdProfileLoad
    simp only [State.started_arg]
    split
    · rfl
    next hh => exact (bad (decide_eq_true (Word.below_lt hh))).elim
  case profileCommit n =>
    show cmdProfileCommit _ = _
    unfold cmdProfileCommit
    simp only [State.started_arg]
    split
    · rfl
    next hh => exact (bad (decide_eq_true (Word.below_lt hh))).elim
  case profileStage n w =>
    show cmdProfileStage _ = _
    unfold cmdProfileStage
    simp only [State.started_arg]
    split
    · rfl
    next hn =>
      split
      · rfl
      next written => exact (bad (Profile.withField?_range hn written)).elim
  case clearTable | ident => exact (bad rfl).elim
  case unknownCommand => exact absurd rfl (known code)

/-! ### Pairs (R3) -/

theorem State.named?_eq_some {s : State} {h : Handle} {e : Epoch} {r : Record} (n : s.names h e r) : s.named? h e = some r :=
  s.named?_iff.2 n

theorem State.named?_eq_none {s : State} {h : Handle} {e : Epoch} (n : ∀ r, ¬s.names h e r) : s.named? h e = none :=
  Option.eq_none_iff_forall_ne_some.2 fun r hr => n r (s.named?_iff.1 hr)

theorem graceArg?_of_range {w : Word} (range : w.toNat ≤ 6000 ∨ 0xFFFE ≤ w.toNat) : ∃ g, graceArg? w = some g := by
  unfold graceArg? Grace.ofWord?
  split
  · exact ⟨none, rfl⟩
  next other =>
    split
    · exact ⟨_, rfl⟩
    next high =>
      rw [if_pos]
      · exact ⟨_, rfl⟩
      · have other : w ≠ 0xFFFE := other
        show w = 0xFFFF
        bv_omega

/-- The four commands that ask for a live record answer STALE for a pair that names none and BUSY for a RETIRING one. -/
def PairRefusals (s : State) (h : Handle) (e : Epoch) (code : Word) (args : List Word) : Prop :=
  ((∀ r, ¬s.names h e r) → commandOf code (s.started code args) = .done (s.started code args) .stale []) ∧
  (∀ r, s.names h e r → r.state = .retiring → commandOf code (s.started code args) = .done (s.started code args) .busy [])

section
variable (s : State) (h : Handle) (e : Epoch)

theorem pairRefusals_rebind {p : Fin 16} (valid : s.isValid p = true) :
    PairRefusals s h e 0x04 [handleWord h, e.setWidth 16, wordOf p.val] := by
  refine ⟨fun unnamed => ?_, fun r named retiring => ?_⟩
  · show cmdRebind _ = _
    simp [cmdRebind, valid, State.named?_eq_none unnamed]
  · show cmdRebind _ = _
    simp [cmdRebind, valid, State.named?_eq_some named, retiring]

theorem pairRefusals_cap (k : Option Step) : PairRefusals s h e 0x05 [handleWord h, e.setWidth 16, stepWord k] := by
  obtain ⟨n, hn⟩ := Option.isSome_iff_exists.1 (Word.below_stepWord k)
  refine ⟨fun unnamed => ?_, fun r named retiring => ?_⟩
  · show cmdCap _ = _
    simp [cmdCap, hn, State.named?_eq_none unnamed]
  · show cmdCap _ = _
    simp [cmdCap, hn, State.named?_eq_some named, retiring]

theorem pairRefusals_renegotiate : PairRefusals s h e 0x06 [handleWord h, e.setWidth 16] := by
  refine ⟨fun unnamed => ?_, fun r named retiring => ?_⟩
  · show cmdRenegotiate _ = _
    simp [cmdRenegotiate, State.named?_eq_none unnamed]
  · show cmdRenegotiate _ = _
    simp [cmdRenegotiate, State.named?_eq_some named, retiring]

theorem pairRefusals_retire {w : Word} {g : Option Grace} (grace : graceArg? w = some g) :
    PairRefusals s h e 0x07 [handleWord h, e.setWidth 16, w] := by
  refine ⟨fun unnamed => ?_, fun r named retiring => ?_⟩
  · show cmdRetire _ = _
    simp [cmdRetire, grace, State.named?_eq_none unnamed]
  · show cmdRetire _ = _
    simp [cmdRetire, grace, State.named?_eq_some named, retiring]

end

/-- Settles O14: the argument words are read before anything else, and the pair before the record's state. -/
theorem badArgumentsAndPairsAreRefused : Obligations.BadArgumentsAndPairsAreRefused := by
  refine ⟨fun c code args s host known bad => exec_badArg host known (by simp [bad]), fun c code args h e s which host ready => ?_⟩
  have refusals : PairRefusals s h e code args := by
    obtain ⟨p, valid, rfl⟩ | ⟨k, rfl⟩ | rfl | ⟨w, range, rfl⟩ := which
    · cases host; exact pairRefusals_rebind s h e valid
    · cases host; exact pairRefusals_cap s h e k
    · cases host; exact pairRefusals_renegotiate s h e
    · cases host
      obtain ⟨-, -, inRange⟩ := of_decide_eq_true range
      obtain ⟨g, grace⟩ := graceArg?_of_range inRange
      exact pairRefusals_retire s h e grace
  exact ⟨fun unnamed => exec_unchanged host ready (refusals.1 unnamed),
    fun r named retiring => exec_unchanged host ready (refusals.2 r named retiring)⟩

end Sys2Proof.Machine
end


section
/-! READ: the words of Table 13-9, field by field (R25, R174). -/

namespace Sys2Proof.Machine

/-! ### Fields of a word -/

section
variable {n a b c d e : Nat}

theorem fields_three (x : BitVec a) (y : BitVec b) (z : BitVec c) :
    (x ++ y ++ z).extractLsb' 0 c = z ∧ (x ++ y ++ z).extractLsb' c b = y ∧ (x ++ y ++ z).extractLsb' (b + c) a = x := by
  refine ⟨BitVec.extractLsb'_append_eq_right, ?_, ?_⟩
  · rw [BitVec.extractLsb'_append_eq_of_le (le_refl c), Nat.sub_self, BitVec.extractLsb'_append_eq_right]
  · rw [BitVec.extractLsb'_append_eq_of_le (Nat.le_add_left c b), Nat.add_sub_cancel, BitVec.extractLsb'_append_eq_left]

theorem fields_four (w : BitVec a) (x : BitVec b) (y : BitVec c) (z : BitVec d) :
    (w ++ x ++ y ++ z).extractLsb' 0 d = z ∧ (w ++ x ++ y ++ z).extractLsb' d c = y ∧
      (w ++ x ++ y ++ z).extractLsb' (c + d) b = x ∧ (w ++ x ++ y ++ z).extractLsb' (b + c + d) a = w := by
  obtain ⟨-, hx, hw⟩ := fields_three w x y
  refine ⟨BitVec.extractLsb'_append_eq_right, ?_, ?_, ?_⟩
  · rw [BitVec.extractLsb'_append_eq_of_le (le_refl d), Nat.sub_self, BitVec.extractLsb'_append_eq_right]
  · rw [BitVec.extractLsb'_append_eq_of_le (Nat.le_add_left d c), Nat.add_sub_cancel, hx]
  · rw [BitVec.extractLsb'_append_eq_of_le (Nat.le_add_left d _), Nat.add_sub_cancel, hw]

theorem fields_five (v : BitVec a) (w : BitVec b) (x : BitVec c) (y : BitVec d) (z : BitVec e) :
    (v ++ w ++ x ++ y ++ z).extractLsb' 0 e = z ∧ (v ++ w ++ x ++ y ++ z).extractLsb' e d = y ∧
      (v ++ w ++ x ++ y ++ z).extractLsb' (d + e) c = x ∧ (v ++ w ++ x ++ y ++ z).extractLsb' (c + d + e) b = w ∧
      (v ++ w ++ x ++ y ++ z).extractLsb' (b + c + d + e) a = v := by
  obtain ⟨-, hx, hw, hv⟩ := fields_four v w x y
  refine ⟨BitVec.extractLsb'_append_eq_right, ?_, ?_, ?_, ?_⟩
  · rw [BitVec.extractLsb'_append_eq_of_le (le_refl e), Nat.sub_self, BitVec.extractLsb'_append_eq_right]
  · rw [BitVec.extractLsb'_append_eq_of_le (Nat.le_add_left e d), Nat.add_sub_cancel, hx]
  · rw [BitVec.extractLsb'_append_eq_of_le (Nat.le_add_left e _), Nat.add_sub_cancel, hw]
  · rw [BitVec.extractLsb'_append_eq_of_le (Nat.le_add_left e _), Nat.add_sub_cancel, hv]

end

/-- A bit is its field of width one. -/
theorem getLsbD_field {n i : Nat} {w : BitVec n} {x : BitVec 1} (field : w.extractLsb' i 1 = x) : w.getLsbD i = x.getLsbD 0 := by
  rw [← field]
  simp

theorem getLsbD_of_field {n i : Nat} {w : BitVec n} {v : Bool} (field : w.extractLsb' i 1 = bit v) : w.getLsbD i = v := by
  rw [getLsbD_field field]
  cases v <;> rfl

theorem keyWord_fields (x : BitVec 1) (l : LineId) (st : Station) : (keyWord x l st).extractLsb' 0 12 = st ∧
    ((keyWord x l st).extractLsb' 12 3).toNat = l.val ∧ (keyWord x l st).extractLsb' 15 1 = x := by
  obtain ⟨station, line, top⟩ := fields_three x (lineBits l) st
  refine ⟨station, ?_, top⟩
  rw [show (keyWord x l st).extractLsb' 12 3 = lineBits l from line]
  simp only [lineBits, BitVec.toNat_ofNat]
  omega

theorem stepCode_lt (o : Option Step) : stepCode o < 16 := by
  cases o with
  | none => decide
  | some k => simp only [stepCode, Step.number]; omega

theorem toNat_field {n w : Nat} (h : n < 2 ^ w) : (BitVec.ofNat w n).toNat = n := by
  rw [BitVec.toNat_ofNat, Nat.mod_eq_of_lt h]

/-- The shown count is the nonzero one of the two, with its direction (R51, R174). -/
theorem Record.countShown_ok {r : Record} (ok : r.QualityCountsOk) : r.countShown.2.toNat = max r.riseCount r.fallCount ∧
    (r.countShown.1.getLsbD 0 = true ↔ r.fallCount ≠ 0) := by
  obtain ⟨one, rise, fall⟩ := ok
  unfold Record.countShown
  split
  next up =>
    have down := one.resolve_left up
    simp [down, toNat_field (show r.riseCount < 2 ^ 4 by omega)]
  next flat =>
    have flat := not_not.1 flat
    split
    next down => simp [flat, down, toNat_field (show r.fallCount < 2 ^ 4 by omega)]
    next still => simp [flat, not_not.1 still]

theorem answered_res (s : State) (code : Word) (args : List Word) (status : Status) (res : List Word) (i : Nat) (hi : i < 8) :
    (s.answered code args status res).port.res[i] = res.getD i 0 := by
  simp [State.answered]

/-! ### The words of a slot -/

theorem readWords_free {x : Slot} (body : x.body = .free) : readWords x = [(0 : BitVec 2) ++ (0 : BitVec 2) ++ x.epoch] := by
  unfold readWords
  rw [body]
  rfl

theorem readWords_vacated {x : Slot} {l : LineId} {st : Station} {c : BitVec 5} (body : x.body = .vacated l st c) :
    readWords x = [(2 : BitVec 2) ++ (0 : BitVec 2) ++ x.epoch, keyWord 0 l st, c.setWidth 16] := by
  unfold readWords
  rw [body]
  rfl

theorem readWords_live {x : Slot} {r : Record} (body : x.body = .live r) : readWords x =
    [(1 : BitVec 2) ++ r.carrier.code ++ x.epoch,
      keyWord (bit r.rerunYes) r.line r.station,
      BitVec.ofNat 4 r.profile.val ++ r.state.code ++ causeCode r.cause ++ r.changes,
      BitVec.ofNat 4 (stepCode r.orderedStep) ++ r.offerBits,
      bit r.remoteMask.isSome ++ bit r.timer.isSome ++ bit r.forwardBlocked ++ r.countShown.1 ++ r.remoteMask.getD 0,
      r.generation,
      BitVec.ofNat 4 (stepCode r.agreed) ++ BitVec.ofNat 4 (stepCode r.capOverride) ++ qualityCeilingCode r.quality ++
        BitVec.ofNat 4 r.attempts,
      r.qualityBits ++ BitVec.ofNat 4 r.holds ++ r.countShown.2] := by
  unfold readWords
  rw [body]
  rfl

theorem readWords_epoch (x : Slot) : ((readWords x).getD 0 0).extractLsb' 0 12 = x.epoch := by
  cases body : x.body with
  | free => rw [readWords_free body]; exact (fields_three _ _ x.epoch).1
  | live r => rw [readWords_live body]; exact (fields_three _ _ x.epoch).1
  | vacated l st c => rw [readWords_vacated body]; exact (fields_three _ _ x.epoch).1

theorem Record.rerunYes_iff (r : Record) : r.rerunYes = true ↔ ∃ a ∈ r.attempt, a.rerun = true := by
  unfold Record.rerunYes
  cases r.attempt <;> simp

/-- Settles O17: the results are the words of Table 13-9 for the slot, each read field by field. -/
theorem readReportsASlot : Obligations.ReadReportsASlot := by
  intro s h ready
  have runs : exec (.read (handleWord h)) s = .next (s.answered 0x03 [handleWord h] .ok (readWords s.slots[h])) := by
    refine exec_unchanged rfl ready ?_
    show cmdRead _ = _
    simp [cmdRead]
  refine ⟨_, runs, ⟨_, rfl⟩, ?_⟩
  have indexed : ∀ i : Fin 8, (s.answered 0x03 [handleWord h] .ok (readWords s.slots[h])).port.res[i] =
    (readWords s.slots[h]).getD i.val 0 := fun i => answered_res _ _ _ _ _ i.val i.isLt
  simp only [answered_res, indexed]
  refine ⟨readWords_epoch _, fun body => ?_, fun l st c body => ?_, fun r body => ?_⟩
  · rw [readWords_free body]
    refine ⟨?_, fun i first => ?_⟩
    · exact (BitVec.extractLsb'_append_eq_of_le (start := 12) (len := 4) (le_refl 12)).trans (by decide)
    · obtain ⟨i, hi⟩ := i
      cases i with
      | zero => exact absurd rfl first
      | succ i => rfl
  · rw [readWords_vacated body]
    obtain ⟨-, carrier, condition⟩ := fields_three (2 : BitVec 2) (0 : BitVec 2) s.slots[h].epoch
    obtain ⟨station, line, -⟩ := keyWord_fields 0 l st
    refine ⟨congrArg BitVec.toNat condition, carrier, line, station, rfl, fun i last => ?_⟩
    match i, last with
    | ⟨i + 3, hi⟩, _ => rfl
  · rw [readWords_live body]
    obtain ⟨-, carrier, condition⟩ := fields_three (1 : BitVec 2) r.carrier.code s.slots[h].epoch
    obtain ⟨station, line, rerun⟩ := keyWord_fields (bit r.rerunYes) r.line r.station
    obtain ⟨changes, cause, state, profile⟩ :=
      fields_four (BitVec.ofNat 4 r.profile.val) r.state.code (causeCode r.cause) r.changes
    obtain ⟨mask, direction, blocked, timer, present⟩ := fields_five (bit r.remoteMask.isSome) (bit r.timer.isSome)
      (bit r.forwardBlocked) r.countShown.1 (r.remoteMask.getD 0)
    obtain ⟨attempts, ceiling, override, agreed⟩ := fields_four (BitVec.ofNat 4 (stepCode r.agreed))
      (BitVec.ofNat 4 (stepCode r.capOverride)) (qualityCeilingCode r.quality) (BitVec.ofNat 4 r.attempts)
    obtain ⟨count, holds, quality⟩ := fields_three r.qualityBits (BitVec.ofNat 4 r.holds) r.countShown.2
    have ordered := BitVec.extractLsb'_append_eq_left (a := BitVec.ofNat 4 (stepCode r.orderedStep)) (b := r.offerBits)
    have offer := BitVec.extractLsb'_append_eq_right (a := BitVec.ofNat 4 (stepCode r.orderedStep)) (b := r.offerBits)
    refine ⟨congrArg BitVec.toNat condition, carrier, ?_, line, station, ?_, state, cause, changes, ?_, fun a attempt => ?_,
      getLsbD_of_field present, getLsbD_of_field timer, getLsbD_of_field blocked, fun m known => ?_, rfl, ?_, ?_,
      fun unmeasured => ⟨?_, ?_⟩, fun q measured => ⟨?_, ?_⟩, fun ok => ?_, fun ok => ?_, fun ok => ⟨?_, ?_⟩⟩
    · exact (Bool.eq_iff_iff.1 (getLsbD_of_field rerun)).trans r.rerunYes_iff
    · exact (congrArg BitVec.toNat profile).trans (toNat_field r.profile.isLt)
    · exact (congrArg BitVec.toNat ordered).trans (toNat_field (stepCode_lt _))
    · refine offer.trans ?_
      unfold Record.offerBits
      rw [show r.attempt = some a from attempt]
    · exact mask.trans (by rw [show r.remoteMask = some m from known]; rfl)
    · exact (congrArg BitVec.toNat agreed).trans (toNat_field (stepCode_lt _))
    · exact (congrArg BitVec.toNat override).trans (toNat_field (stepCode_lt _))
    · exact (congrArg BitVec.toNat ceiling).trans (by rw [unmeasured]; rfl)
    · exact quality.trans (by unfold Record.qualityBits; rw [unmeasured])
    · refine (congrArg BitVec.toNat ceiling).trans ?_
      rw [show r.quality = some q from measured]
      exact toNat_field (stepCode_lt _)
    · exact quality.trans (by unfold Record.qualityBits; rw [show r.quality = some q from measured])
    · exact (congrArg BitVec.toNat attempts).trans (toNat_field (by have := ok; omega))
    · exact (congrArg BitVec.toNat holds).trans (toNat_field (lt_of_le_of_lt ok.1 (by decide)))
    · exact (congrArg BitVec.toNat count).trans (Record.countShown_ok ok).1
    · exact (Bool.eq_iff_iff.1 (getLsbD_field direction)).trans (Record.countShown_ok ok).2

end Sys2Proof.Machine
end


section
/-! ADMIT (R14 to R17). -/

namespace Sys2Proof.Machine

/-- A host command whose owner begins with a change of the flags, and then changes table, lines and arbiters alone. -/
theorem exec_answers_from {c : Instr} {code : Word} {args res : List Word} {status : Status} {s u v : State}
    (host : hostCommand? c = some (code, args)) (ready : s.ready) (o : u.Outer v)
    (e : commandOf code (s.started code args) = .done (v.withRest (u.startedRest code args)) status res) :
    exec c s = .next (v.answered code args status res) := by
  rw [exec_hostCommand host, State.issue_done ready e, State.complete_withRest o]

section
variable (s : State) (l : LineId) (st : Station) (p : Fin 16) (code : Word) (args : List Word)

theorem State.started_created (h : Handle) (r : Record) :
    (s.started code args).created h r = (s.created h r).started code args := by
  rw [State.created_eq, State.created_eq]
  rfl

theorem State.started_admitted (mask : Option StepSet) (c : Cause) :
    (s.started code args).admitted l st p mask c = s.admitted l st p mask c := rfl

theorem State.started_place (mask : Option StepSet) {c : Cause} (normal : c.isUrgent = false) :
    (s.started code args).place l st p mask c =
      if s.lines[l].quota ≤ s.liveCount l then .overQuota
      else match s.chooseSlot with
        | none => .tableFull
        | some h => .placed h ((s.created h (s.admitted l st p mask c)).started code args) := by
  rw [State.place_eq _ l st p mask normal]
  simp only [State.started_created, State.started_admitted]
  rfl

end

/-- Settles O18: the tests in order, and the record of `place` with the hand-out after it. -/
theorem admitTestsAndCreates : Obligations.AdmitTestsAndCreates := by
  refine ⟨fun s l st p ready => ⟨fun invalid => ?_, fun valid live => ?_, fun valid fresh most => ?_,
    fun valid fresh room full => ?_⟩, fun s l st p h ready valid fresh room chosen => ?_⟩
  · refine exec_unchanged rfl ready ?_
    show cmdAdmit _ = _
    simp [cmdAdmit, invalid]
  · refine exec_unchanged rfl ready ?_
    show cmdAdmit _ = _
    simp [cmdAdmit, valid, State.keyLive_iff.1 live]
  · refine exec_unchanged rfl ready ?_
    show cmdAdmit _ = _
    simp [cmdAdmit, valid, State.findKey_of_notLive fresh, State.started_place _ _ _ _ _ _ none (c := .initial) rfl, most,
      -Fin.getElem_fin]
  · refine exec_answers_from rfl ready (State.Outer.refl s.setTableFull) ?_
    show cmdAdmit _ = _
    simp [cmdAdmit, valid, State.findKey_of_notLive fresh, State.started_place _ _ _ _ _ _ none (c := .initial) rfl,
      State.chooseSlot_of_live full, not_le.2 room, -Fin.getElem_fin]
    rfl
  · refine exec_answers_from (u := s.created h (s.admitted l st p none .initial)) rfl ready (State.outer_handOut _ _) ?_
    show cmdAdmit _ = _
    simp [cmdAdmit, valid, State.findKey_of_notLive fresh, State.started_place _ _ _ _ _ _ none (c := .initial) rfl,
      State.chooseSlot_of_chooses chosen, not_le.2 room, -Fin.getElem_fin]
    exact ⟨rfl, rfl, rfl⟩

end Sys2Proof.Machine
end


section
/-! RETIRE (R125 to R127). -/

namespace Sys2Proof.Machine

section
variable (s : State) (code : Word) (args : List Word) (h : Handle) (r : Record)

theorem State.started_detach :
    (s.started code args).detach h r = (s.detach h r).withRest (s.startedRest code args) := by
  unfold State.detach
  cases r.state <;> simp [State.started_eq]

theorem State.started_graceTimer (g : Grace) : (s.started code args).graceTimer g = s.graceTimer g := by
  cases g <;> rfl

end

/-- What a GRACE argument asks for (R125). -/
theorem graceArg?_getD {w : Word} {g d : Grace} (asks : (w.toNat ≤ 6000 ∧ g = .bounded w.toNat) ∨
    (w = 0xFFFF ∧ g = .unbounded) ∨ (w = 0xFFFE ∧ g = d)) : ∃ x, graceArg? w = some x ∧ x.getD d = g := by
  obtain ⟨low, rfl⟩ | ⟨rfl, rfl⟩ | ⟨rfl, rfl⟩ := asks
  · refine ⟨some (.bounded w.toNat), ?_, rfl⟩
    unfold graceArg? Grace.ofWord?
    rw [if_neg fun top => by subst top; exact absurd low (by decide), if_pos low]
    rfl
  · exact ⟨some .unbounded, rfl, rfl⟩
  · exact ⟨none, rfl, rfl⟩

/-- The record RETIRE detaches loses its agreed step (R20, R126). -/
theorem Record.detached_eq (p : Profile) (r : Record) : Record.detached p r = { r with
    attempt := none, timer := none, cause := none, agreed := none
    generation := if r.agreed.isSome then r.generation + 1 else r.generation
    changes := recorded r.changes (if r.agreed.isSome then kindRate else 0) p } := by
  rw [Record.detached, Record.dropAgreed_eq]

theorem State.setBody_isFree (s : State) (h : Handle) (b : SlotBody) : (s.setBody h b).slots[h].body.isFree = b.isFree := by
  rw [State.slot_setBody_same]

theorem State.leaveTable_detached (s : State) (h : Handle) (r : Record) :
    ((s.detach h r).putRecord h (Record.detached (s.profileOf r.profile) r)).leaveTable h =
      (s.detach h r).setBody h (Record.left (s.profileOf r.profile) (Record.detached (s.profileOf r.profile) r)) := by
  rw [State.leaveTable_putRecord, Record.detached_profile]
  simp only [State.profileOf, State.profiles_detach]

/-- RETIRE of a live record, by its hold count (R126, R127). -/
theorem cmdRetire_live {s : State} {h : Handle} {e : Epoch} {w : Word} {x : Option Grace} {r : Record} (grace : graceArg? w = some x)
    (named : s.names h e r) (live : r.state ≠ .retiring) :
    commandOf 0x07 (s.started 0x07 [handleWord h, e.setWidth 16, w]) =
      if r.holds = 0 then
        .done ((((s.detach h r).setBody h
            (Record.left (s.profileOf r.profile) (Record.detached (s.profileOf r.profile) r))).handOut r.line).withRest
              (s.startedRest 0x07 [handleWord h, e.setWidth 16, w])) .ok
          [if (Record.left (s.profileOf r.profile) (Record.detached (s.profileOf r.profile) r)).isFree then 0 else 1, 0, 0]
      else
        .done ((((s.detach h r).putRecord h (Record.enter (s.profileOf r.profile) .retiring
            { Record.detached (s.profileOf r.profile) r with
              timer := s.graceTimer (x.getD (s.profileOf r.profile).graceDefault) })).handOut r.line).withRest
                (s.startedRest 0x07 [handleWord h, e.setWidth 16, w])) .ok
          [2, wordOf r.holds, (x.getD (s.profileOf r.profile).graceDefault).code] := by
  have leaves := s.leaveTable_detached h r
  rw [← State.setBody_isFree (s.detach h r) h]
  unfold Record.detached at *
  rw [← leaves]
  show cmdRetire _ = _
  simp [cmdRetire, grace, State.named?_eq_some named, live, State.started_detach, State.started_graceTimer, -Fin.getElem_fin]

theorem exec_retire {s : State} {h : Handle} {e : Epoch} {w : Word} {g : Grace} {r : Record} (ready : s.ready)
    (named : s.names h e r) (live : r.state ≠ .retiring) (asks : (w.toNat ≤ 6000 ∧ g = .bounded w.toNat) ∨
      (w = 0xFFFF ∧ g = .unbounded) ∨ (w = 0xFFFE ∧ g = (s.profileOf r.profile).graceDefault)) :
    let body := Record.left (s.profileOf r.profile) (Record.detached (s.profileOf r.profile) r)
    (r.holds = 0 → exec (.retire (handleWord h) (e.setWidth 16) w) s = .next ((((s.detach h r).setBody h body).handOut
      r.line).answered 0x07 [handleWord h, e.setWidth 16, w] .ok [if body.isFree then 0 else 1, 0, 0])) ∧
    (r.holds ≠ 0 → exec (.retire (handleWord h) (e.setWidth 16) w) s = .next ((((s.detach h r).putRecord h
      (Record.enter (s.profileOf r.profile) .retiring { Record.detached (s.profileOf r.profile) r with
        timer := s.graceTimer g })).handOut r.line).answered 0x07 [handleWord h, e.setWidth 16, w] .ok
          [2, wordOf r.holds, g.code])) := by
  obtain ⟨x, grace, rfl⟩ := graceArg?_getD asks
  have owner := cmdRetire_live grace named live
  refine ⟨fun free => ?_, fun held => ?_⟩
  · rw [if_pos free] at owner
    exact exec_answers rfl ready ((s.outer_detach h r).trans ((State.outer_setBody _ _ _).trans (State.outer_handOut _ _))) owner
  · rw [if_neg held] at owner
    exact exec_answers rfl ready ((s.outer_detach h r).trans ((State.outer_putRecord _ _ _).trans (State.outer_handOut _ _))) owner

/-- Settles O22: Table 8-1 is the detachment, and the hold count decides between leaving and RETIRING. -/
theorem retireDetachesAndEnds : Obligations.RetireDetachesAndEnds := by
  intro s h e w g r ready named live asks p c args detached rate kinds
  have same : detached = s.detach h r := by
    unfold State.detach
    cases state : r.state <;> simp only [detached, state] <;> rfl
  have recorded_kinds : recorded (Record.detached p r).changes kindRetired p = kinds := by
    rw [Record.detached_eq, recorded_recorded]
  obtain ⟨free, held⟩ := exec_retire ready named live asks
  clear_value detached
  subst same
  refine ⟨fun none empty => ?_, fun none full => ?_, fun some => ?_⟩
  · have left : Record.left p (Record.detached p r) = .free := if_pos (recorded_kinds.trans empty)
    have := free none
    rwa [left] at this
  · have left : Record.left p (Record.detached p r) = .vacated r.line r.station kinds := by
      unfold Record.left
      rw [recorded_kinds, if_neg full, (Record.detached_key p r).1, (Record.detached_key p r).2]
    have := free none
    rwa [left] at this
  · rw [show exec c s = _ from held some, Record.enter_eq, Record.detached_eq]
    dsimp only
    rw [recorded_recorded]
    rfl

end Sys2Proof.Machine
end


section
/-! CLEAR_TABLE (R26, R74). -/

namespace Sys2Proof.Machine

/-! ### Frames handed down, one after another -/

/-- One frame handed to a line (R74). -/
def Line.handed (x : Line) (f : DownFrame) : Line :=
  if x.txQueue.length < Config.txQueueDepth then { x with txQueue := x.txQueue ++ [f] } else Line.note lineKindFault x

theorem State.sendDown_line (s : State) (l k : LineId) (f : DownFrame) :
    (s.sendDown l f).lines[k] = if l = k then s.lines[k].handed f else s.lines[k] := by
  unfold State.sendDown
  rw [State.line_modLine]
  split
  next same => subst same; rfl
  · rfl

/-- Frames join the queue while there is room; a frame that meets a full queue records FAULT (R74). -/
theorem Line.foldl_handed (fs : List DownFrame) (x : Line) : fs.foldl Line.handed x =
    { x with
      txQueue := x.txQueue ++ fs.take (Config.txQueueDepth - x.txQueue.length)
      changes := if Config.txQueueDepth - x.txQueue.length < fs.length then x.changes ||| lineKindFault else x.changes } := by
  induction fs generalizing x with
  | nil => simp
  | cons f fs ih =>
    rw [List.foldl_cons, ih]
    unfold Line.handed
    split
    next room =>
      obtain ⟨n, hn⟩ : ∃ n, Config.txQueueDepth - x.txQueue.length = n + 1 :=
        Nat.exists_eq_succ_of_ne_zero (by omega)
      have less : Config.txQueueDepth - (x.txQueue ++ [f]).length = n := by
        rw [List.length_append, List.length_singleton]; omega
      simp only [less, hn, List.take_succ_cons, List.append_assoc, List.singleton_append, List.length_cons,
        Nat.add_lt_add_iff_right]
    next full =>
      have none : Config.txQueueDepth - x.txQueue.length = 0 := by omega
      simp [Line.note, none, BitVec.or_assoc]

/-! ### The visits -/

/-- The ABANDON frame that CLEAR_TABLE owes a line for the record of a slot (R26). -/
def State.owed (s : State) (l : LineId) (h : Handle) : Option DownFrame := match s.record? h with
  | some r => if r.line = l ∧ (r.state = .negotiating ∨ r.state = .agreed ∨ r.state = .holdover)
      then some (.abandon r.station) else none
  | none => none

theorem State.clearVisit_line (s : State) (h : Handle) (l : LineId) :
    (s.clearVisit h).lines[l] = (s.owed l h).toList.foldl Line.handed s.lines[l] := by
  unfold State.clearVisit State.owed
  cases s.record? h with
  | none => rfl
  | some r =>
    dsimp only
    have sent : (s.sendAbandon r).lines[l] =
        if r.line = l then s.lines[l].handed (.abandon r.station) else s.lines[l] := s.sendDown_line _ _ _
    cases state : r.state <;> simp only [sent] <;> by_cases line : r.line = l <;> simp [line]

theorem State.clearVisit_slots (s : State) (h : Handle) : (s.clearVisit h).slots = s.slots := by
  unfold State.clearVisit
  split
  · rfl
  · split <;> rfl

theorem State.owed_congr {s t : State} (slots : t.slots = s.slots) (l : LineId) (h : Handle) : t.owed l h = s.owed l h := by
  simp only [State.owed, State.record?, slots]

/-- The visits hand each line what it is owed, in handle order (R26). -/
theorem State.clearVisits_line (s : State) (l : LineId) : (s.forHandles fun h t => t.clearVisit h).lines[l] =
    ((List.finRange 256).filterMap (s.owed l)).foldl Line.handed s.lines[l] := by
  unfold State.forHandles
  generalize List.finRange 256 = handles
  have visits : ∀ t : State, t.slots = s.slots → (handles.foldl (fun t h => t.clearVisit h) t).lines[l] =
      (handles.filterMap (s.owed l)).foldl Line.handed t.lines[l] := by
    induction handles with
    | nil => exact fun _ _ => rfl
    | cons h handles ih =>
      intro t slots
      rw [List.foldl_cons, ih _ ((t.clearVisit_slots h).trans slots), t.clearVisit_line h l, State.owed_congr slots l h]
      cases owed : s.owed l h <;> simp [owed]
  exact visits s rfl

/-! ### The command -/

/-- Every slot free, with its epoch kept, and every arbiter empty. -/
def State.emptied (s : State) : State := { s with
  slots := s.slots.map fun x => { x with body := .free }, arbiters := Vector.replicate 8 Arbiter.reset }

/-- What CLEAR_TABLE makes of the part (R26). -/
def State.cleared (s : State) : State := (s.forHandles fun h t => t.clearVisit h).emptied

theorem State.emptied_withRest (s : State) (x : Rest) : (s.withRest x).emptied = s.emptied.withRest x := rfl

theorem State.emptied_lines (s : State) : s.emptied.lines = s.lines := rfl

theorem State.emptied_slot (s : State) (h : Handle) : s.emptied.slots[h] = { s.slots[h] with body := .free } := by
  simp [State.emptied]

theorem State.emptied_arbiter (s : State) (l : LineId) : s.emptied.arbiters[l] = Arbiter.reset := by
  simp [State.emptied]

theorem State.outer_emptied (s : State) : s.Outer s.emptied := rfl

theorem seesTable_clearVisit (h : Handle) : SeesTable fun t => t.clearVisit h := by
  intro s x
  show (s.withRest x).clearVisit h = (s.clearVisit h).withRest x
  unfold State.clearVisit
  rw [State.record?_withRest]
  cases s.record? h with
  | none => rfl
  | some r => cases state : r.state <;> simp [state]

theorem State.cleared_withRest (s : State) (x : Rest) : (s.withRest x).cleared = s.cleared.withRest x := by
  unfold State.cleared
  rw [State.forHandles_withRest s x seesTable_clearVisit, State.emptied_withRest]

theorem State.outer_cleared (s : State) : s.Outer s.cleared :=
  (s.outer_forHandles fun h t => t.outer_clearVisit h).trans (State.outer_emptied _)

theorem cmdClearTable_eq (s : State) : cmdClearTable s = .done s.cleared .ok
    [wordOf ((List.finRange 256).countP fun h => s.slots[h].body.isLive),
      wordOf ((List.finRange 256).countP fun h => s.slots[h].body.isVacated)] := rfl

theorem State.answered_lines (s : State) (code : Word) (args : List Word) (status : Status) (res : List Word) :
    (s.answered code args status res).lines = s.lines := rfl

/-- Settles O24: the visits hand the frames owed, and then every slot is free and every arbiter empty. -/
theorem clearTableEmptiesTheTable : Obligations.ClearTableEmptiesTheTable := by
  intro s ready
  have runs : exec .clearTable s = .next (s.cleared.answered 0x30 [] .ok
      [wordOf ((List.finRange 256).countP fun h => s.slots[h].body.isLive),
        wordOf ((List.finRange 256).countP fun h => s.slots[h].body.isVacated)]) := by
    refine exec_answers rfl ready s.outer_cleared ((cmdClearTable_eq _).trans ?_)
    rw [State.started_slots, ← State.cleared_withRest, State.started_eq]
  refine ⟨_, _, _, runs, ?_, rfl, rfl, fun h => ?_, fun l => ?_, fun l => ?_⟩
  · have outer := s.outer_cleared
    unfold State.Outer at outer
    unfold State.answered
    rw [outer]
  · show s.cleared.slots[h] = _
    rw [State.cleared, State.emptied_slot, State.clearVisits_slots]
  · show s.cleared.arbiters[l] = _
    rw [State.cleared, State.emptied_arbiter]
    rfl
  · intro owed room
    have frames : (List.finRange 256).filterMap (s.owed l) = owed :=
      congrArg (fun f => (List.finRange 256).filterMap f) (funext fun h => rfl)
    rw [State.answered_lines, State.cleared, State.emptied_lines, State.clearVisits_line, Line.foldl_handed, frames]

end Sys2Proof.Machine
end


section
/-! The five record timers (R9, R10, R22, R93, R100, R113, R129). -/

namespace Sys2Proof.Machine

section
variable {s : State} {h : Handle} {r : Record} {kind : Record → Bool} {f : State → Record → State}

/-- An expiry occurs once the accuracy of its timer lets it (R10). -/
theorem State.expire_occurs {tm : Timer} (running : s.running = true) (hr : s.record? h = some r) (timer : r.timer = some tm)
    (due : tm.earliest ≤ s.now) (ok : kind r = true) : s.expire h kind f = f s r := by
  unfold State.expire
  rw [hr]
  dsimp only
  rw [timer]
  dsimp only
  rw [running, ok, show s.mayExpire tm = true from decide_eq_true due]
  rfl

/-- An expiry does not occur before that, without a timer, or under the name of another kind. -/
theorem State.expire_not (no : (∀ r ∈ s.record? h, ∀ tm ∈ r.timer, s.now < tm.earliest) ∨ ∀ r ∈ s.record? h, kind r = false) :
    s.expire h kind f = s := by
  obtain e | ⟨r, tm, -, hr, timer, due, ok, -⟩ := s.expire_cases h kind f
  · exact e
  · obtain early | other := no
    · have := early r hr tm timer
      omega
    · rw [other r hr] at ok
      cases ok

/-- The record a hold-over expiry requeues has lost its agreed step (R113). -/
theorem Record.dropAgreed_some {p : Profile} {k : Step} (agreed : r.agreed = some k) : Record.dropAgreed p r = { r with
    agreed := none, generation := r.generation + 1, changes := recorded r.changes kindRate p } := by
  rw [Record.dropAgreed_eq, agreed]
  rfl

end

/-- Settles O47: each row is an expiry of its own kind, and what it does then is its rule's effect. -/
theorem recordTimersExpire : Obligations.RecordTimersExpire := by
  refine ⟨fun s h r tm running hr timer due => ⟨fun offered => ?_, fun ordered => ?_, fun k state agreed => ?_,
    fun c state cause => ?_, fun state => ?_⟩, fun s h => ⟨fun no => ?_, fun no => ?_, fun no => ?_, fun no => ?_, fun no => ?_⟩⟩
  · exact congrArg Host.Outcome.next (State.expire_occurs running hr timer due offered)
  · exact congrArg Host.Outcome.next (State.expire_occurs running hr timer due ordered)
  · refine congrArg Host.Outcome.next ((State.expire_occurs running hr timer due (decide_eq_true state)).trans ?_)
    rw [Record.dropAgreed_some agreed]
  · refine congrArg Host.Outcome.next ((State.expire_occurs running hr timer due (decide_eq_true state)).trans ?_)
    rw [cause]
    rfl
  · refine congrArg Host.Outcome.next ((State.expire_occurs running hr timer due (decide_eq_true state)).trans ?_)
    exact State.leaveTable_eq hr
  · exact congrArg Host.Outcome.next (State.expire_not no)
  · exact congrArg Host.Outcome.next (State.expire_not no)
  all_goals exact congrArg Host.Outcome.next (State.expire_not (no.imp_right fun other r hr => decide_eq_false (other r hr)))

end Sys2Proof.Machine
end


section
/-! The four events by which a line leaves UP (R63, R65, R66, R68, R77). -/

namespace Sys2Proof.Machine

section
variable {s : State} {l : LineId}

/-- A line changes by what becomes of its record alone. -/
theorem State.modLine_congr {f f' : Line → Line} (same : f s.lines[l] = f' s.lines[l]) : s.modLine l f = s.modLine l f' := by
  unfold State.modLine
  rw [same]

theorem lineAfterFrame_eq (st : LineState) (now : Nat) (x : Line) :
    Line.restartSilence now { Line.enter st x with badRun := 0 } = lineAfterFrame st now x := by
  rw [Line.enter_eq]
  rfl

/-- The record of a DOWN or UP line that goes LOST (R63, R65). -/
def Line.lost (x : Line) : Line :=
  { x with state := .lost, silence := none, changes := x.changes ||| lineKindState ||| lineKindFault }

theorem Line.lose_eq {x : Line} (known : x.state ≠ .lost) : Line.lose x = x.lost := by
  rw [Line.lose, Line.enter_eq, if_neg known]
  rfl

theorem Line.resetEngine_eq (now : Nat) (x : Line) :
    Line.resetEngine now x = { lineAfterFrame .down now x with txQueue := [.reset] } := by
  rw [Line.resetEngine, Line.enter_eq]
  rfl

theorem State.lineIsUp_of_state {st : LineState} (state : s.lines[l].state = st) : s.lineIsUp l = decide (st = .up) := by
  rw [State.lineIsUp, state]

/-- A line that is lost from UP leaves UP (R68). -/
theorem State.loseLine_up (up : s.lines[l].state = .up) : s.loseLine l = (s.modLine l Line.lost).lineLeavesUp l := by
  unfold State.loseLine
  rw [State.modLine_congr (f' := Line.lost) (Line.lose_eq (by rw [up]; decide)), State.lineIsUp_of_state up]
  rfl

/-- A line that is lost from DOWN only changes (R68). -/
theorem State.loseLine_down (down : s.lines[l].state = .down) : s.loseLine l = s.modLine l Line.lost := by
  unfold State.loseLine
  rw [State.modLine_congr (f' := Line.lost) (Line.lose_eq (by rw [down]; decide)), State.lineIsUp_of_state down]
  rfl

theorem exec_lineDown_up (hears : s.hears l = true) (up : s.lines[l].state = .up) :
    exec (.lineDown l) s = .next ((s.modLine l (lineAfterFrame .down s.now)).lineLeavesUp l) := by
  show execLineDown l s = _
  rw [execLineDown, if_pos hears, State.takeLineDown, State.lineIsUp_of_state up,
    State.modLine_congr (f' := lineAfterFrame .down s.now) (lineAfterFrame_eq .down s.now s.lines[l])]
  rfl

theorem exec_silenceExpiry_due {tm : Timer} (running : s.running = true) (runs : s.lines[l].silence = some tm)
    (due : tm.earliest ≤ s.now) : exec (.silenceExpiry l) s = .next (s.loseLine l) := by
  show execSilenceExpiry l s = _
  rw [execSilenceExpiry, runs]
  dsimp only
  rw [running, show s.mayExpire tm = true from decide_eq_true due]
  rfl

theorem exec_silenceExpiry_early {tm : Timer} (runs : s.lines[l].silence = some tm) (early : s.now < tm.earliest) :
    exec (.silenceExpiry l) s = .next s := by
  show execSilenceExpiry l s = _
  rw [execSilenceExpiry, runs]
  dsimp only
  rw [show s.mayExpire tm = false from decide_eq_false (by omega), Bool.and_false]
  rfl

theorem exec_silenceExpiry_stopped (stopped : s.lines[l].silence = none) : exec (.silenceExpiry l) s = .next s := by
  show execSilenceExpiry l s = _
  rw [execSilenceExpiry, stopped]

/-- The eighth malformed frame in a row loses the line (R63). -/
theorem exec_malformedFrame_eighth (hears : s.hears l = true) (up : s.lines[l].state = .up) (run : s.lines[l].badRun = 7) :
    exec (.malformedFrame l) s = .next ((s.modLine l fun ln => { ln.lost with badRun := 8 }).lineLeavesUp l) := by
  have counted : (s.modLine l fun ln => { ln with badRun := min (s.lines[l].badRun + 1) Config.badRunLimit }).lines[l].state = .up := by
    rw [State.line_modLine_same]
    exact up
  show execMalformedFrame l s = _
  rw [execMalformedFrame, if_pos hears, State.takeMalformed]
  dsimp only
  rw [if_pos ⟨by rw [run]; rfl, .inr up⟩, State.loseLine_up counted, State.modLine_modLine, run]
  rfl

theorem exec_lineReset (ready : s.ready) : exec (.lineReset (lineWord l)) s =
    .next (((s.modLine l fun ln => { lineAfterFrame .down s.now ln with txQueue := [.reset] }).lineLeavesUp
      l).answered 0x22 [lineWord l] .ok [s.lines[l].state.code.setWidth 16]) := by
  rw [← State.modLine_congr (f := Line.resetEngine s.now) (Line.resetEngine_eq s.now s.lines[l])]
  refine exec_answers rfl ready ((s.outer_modLine l _).trans (State.outer_lineLeavesUp _ l)) ?_
  show cmdLineReset _ = _
  simp [cmdLineReset]

end

/-- Settles O33: each event changes the line record first, and the records of a line that was UP follow. -/
theorem lineLeavesUpByFourEvents : Obligations.LineLeavesUpByFourEvents := by
  intro s l running
  refine ⟨exec_lineDown_up, fun tm runs => ⟨exec_silenceExpiry_early runs, fun due up => ?_, fun due down => ?_⟩,
    exec_silenceExpiry_stopped, exec_malformedFrame_eighth, fun idle => exec_lineReset ⟨running, idle⟩⟩
  · exact (exec_silenceExpiry_due running runs due).trans (congrArg Host.Outcome.next (State.loseLine_up up))
  · exact (exec_silenceExpiry_due running runs due).trans (congrArg Host.Outcome.next (State.loseLine_down down))

end Sys2Proof.Machine
end


section
/-! Station frames: how they find their record, and frames without one (R18, R19, R69 to R72). -/

namespace Sys2Proof.Machine

section
variable {s : State} {l : LineId} {st : Station} {h : Handle} {r : Record}

/-! ### The line part of a frame -/

theorem State.line_heardFrame (s : State) (l : LineId) :
    (s.heardFrame l).lines[l] = lineAfterFrame s.lines[l].state.heard s.now s.lines[l] := by
  unfold State.heardFrame
  rw [State.line_modLine_same, lineAfterFrame_eq]

theorem State.findKey_heardFrame (s : State) (l k : LineId) (st : Station) : (s.heardFrame l).findKey k st = s.findKey k st := rfl

theorem State.liveCount_heardFrame (s : State) (l k : LineId) : (s.heardFrame l).liveCount k = s.liveCount k := rfl

theorem State.chooseSlot_heardFrame (s : State) (l : LineId) : (s.heardFrame l).chooseSlot = s.chooseSlot := rfl

theorem State.profileOf_heardFrame (s : State) (l : LineId) (p : Fin 16) : (s.heardFrame l).profileOf p = s.profileOf p := rfl

theorem State.lineIsUp_heardFrame (s : State) (l k : LineId) : (s.heardFrame l).lineIsUp k = s.lineIsUp k :=
  (s.moves_heardFrame True l l).up k

/-! ### CAPABILITY from a new station (R18, R19) -/

/-- A line-born admission, by its tests. -/
theorem State.lineBorn_eq (s : State) (l : LineId) (st : Station) (mask : StepSet) : s.lineBorn l st mask =
    if s.lines[l].mode = .closed then s.refuseLineBorn l st
    else if s.lines[l].quota ≤ s.liveCount l then s.refuseLineBorn l st
    else match s.chooseSlot with
      | none => s.setTableFull.refuseLineBorn l st
      | some h => (s.created h (s.admitted l st s.lines[l].defaultProfile (some mask) .remote)).handOut l := by
  unfold State.lineBorn
  rw [State.place_eq s l st _ (some mask) (c := .remote) rfl]
  split
  · rfl
  by_cases most : s.lines[l].quota ≤ s.liveCount l
  · rw [if_pos most, if_pos most]
  · rw [if_neg most, if_neg most]
    cases s.chooseSlot <;> rfl

theorem exec_capability (hears : s.hears l = true) (mask : StepSet) :
    exec (.capability l st mask) s = .next ((s.heardFrame l).takeCapability l st mask) :=
  congrArg Host.Outcome.next (if_pos hears)

theorem exec_capability_fresh (hears : s.hears l = true) (fresh : ¬s.keyLive l st) (mask : StepSet) :
    exec (.capability l st mask) s = .next ((s.heardFrame l).lineBorn l st mask) := by
  rw [exec_capability hears, State.takeCapability, State.findKey_heardFrame, State.findKey_of_notLive fresh]

/-! ### The other station frames (R69, R71, R72) -/

theorem State.toStation_fresh {f : State → Handle → Record → State} (fresh : ¬s.keyLive l st) :
    (s.heardFrame l).toStation l st f = (s.heardFrame l).noteLine l lineKindUnknown := by
  rw [State.toStation, State.findKey_heardFrame, State.findKey_of_notLive fresh]

theorem State.toStation_of_hasRecord {f : State → Handle → Record → State} (unique : s.KeysUnique) (has : s.hasRecord h r l st) :
    (s.heardFrame l).toStation l st f = f (s.heardFrame l) h r := by
  rw [State.toStation, State.findKey_heardFrame, State.findKey_of_hasRecord unique has]
  dsimp only
  rw [State.record?_heardFrame, has.1]

theorem State.takeOutcome_stray {w : OutcomeReason} (other : r.inOffered = false) :
    State.takeOutcome w s h r = s.noteLine r.line lineKindStray := by
  unfold State.takeOutcome Record.attempt?
  by_cases state : r.state = .negotiating
  · cases attempt : r.attempt with
    | none => simp [state]
    | some a =>
      have ordered : a.phase ≠ .offered := by simpa [Record.inOffered, state, attempt] using other
      cases phase : a.phase with
      | offered => exact absurd phase ordered
      | ordered k => simp [state, phase]
  · simp [state]

theorem State.takeConfirm_stray {k : Step} (other : r.inOrdered = false) :
    State.takeConfirm k s h r = s.noteLine r.line lineKindStray := by
  unfold State.takeConfirm Record.attempt?
  by_cases state : r.state = .negotiating
  · cases attempt : r.attempt with
    | none => simp [state]
    | some a =>
      have offered : a.phase = .offered := by simpa [Record.inOrdered, state, attempt] using other
      simp [state, offered]
  · simp [state]

end

/-- Settles O37: the line part first, then the tests of R19 in order; a frame without its record is only noted. -/
theorem framesWithoutTheirRecord : Obligations.FramesWithoutTheirRecord := by
  refine ⟨fun s l st mask hears fresh => ?_, fun s l st hears => ⟨fun fresh => ⟨fun w => ?_, fun k => ?_, fun c => ?_, fun v => ?_⟩,
    fun h r unique has => ⟨fun other w => ?_, fun other k => ?_⟩⟩⟩
  · rw [exec_capability_fresh hears fresh, State.lineBorn_eq, State.line_heardFrame, State.liveCount_heardFrame,
      State.chooseSlot_heardFrame]
    intro u refused
    refine ⟨fun closed => ?_, fun opened most => ?_, fun opened room full => ?_, fun h opened room chosen => ?_⟩
    · exact congrArg Host.Outcome.next (if_pos closed)
    all_goals
      rw [if_neg (show ¬(lineAfterFrame s.lines[l].state.heard s.now s.lines[l]).mode = .closed by
        show ¬s.lines[l].mode = _; rw [opened]; decide)]
    · exact congrArg Host.Outcome.next (if_pos most)
    · rw [if_neg (show ¬(lineAfterFrame s.lines[l].state.heard s.now s.lines[l]).quota ≤ s.liveCount l from not_le.2 room),
        State.chooseSlot_of_live full]
      rfl
    · rw [if_neg (show ¬(lineAfterFrame s.lines[l].state.heard s.now s.lines[l]).quota ≤ s.liveCount l from not_le.2 room),
        State.chooseSlot_of_chooses chosen]
      dsimp only
      rw [State.admitted, State.lineIsUp_heardFrame, State.profileOf_heardFrame]
      rfl
  all_goals refine congrArg Host.Outcome.next ((if_pos hears).trans ?_)
  · exact State.toStation_fresh fresh
  · exact State.toStation_fresh fresh
  · exact State.toStation_fresh fresh
  · exact State.toStation_fresh fresh
  · rw [State.toStation_of_hasRecord unique has, State.takeOutcome_stray other, has.2.1]
    rfl
  · rw [State.toStation_of_hasRecord unique has, State.takeConfirm_stray other, has.2.1]
    rfl

end Sys2Proof.Machine
end


section
/-! CAPABILITY for a record, by its state (R8, R20, R88, R92, R102). -/

namespace Sys2Proof.Machine

/-! ### The record of a frame's mask (R8, R20) -/

theorem Record.takeMask_kept {p : Profile} {mask : StepSet} {r : Record} (kept : ∀ k ∈ r.agreed, StepSet.has mask k = true) :
    Record.takeMask p mask r = { r with
      remoteMask := some mask
      changes := recorded r.changes (if r.remoteMask = some mask then 0 else kindRemote) p } := by
  rw [Record.takeMask_eq]
  cases agreed : r.agreed with
  | none => simp
  | some k => simp [Option.filter, kept k agreed]

theorem Record.takeMask_dropped {p : Profile} {mask : StepSet} {r : Record} (lost : ¬∀ k ∈ r.agreed, StepSet.has mask k = true) :
    Record.takeMask p mask r = { r with
      remoteMask := some mask, agreed := none, generation := r.generation + 1
      changes := recorded r.changes ((if r.remoteMask = some mask then 0 else kindRemote) ||| kindRate) p } := by
  rw [Record.takeMask_eq]
  cases agreed : r.agreed with
  | none => simp [agreed] at lost
  | some k =>
    have out : StepSet.has mask k = false := by simpa [agreed] using lost
    simp [Option.filter, out]

theorem Record.takeMask_key (p : Profile) (mask : StepSet) (r : Record) :
    (Record.takeMask p mask r).line = r.line ∧ (Record.takeMask p mask r).station = r.station := by
  rw [Record.takeMask_eq]
  exact ⟨rfl, rfl⟩

theorem Record.orderedStep_eq_some {r : Record} {k : Step} (ordered : r.orderedStep = some k) :
    ∃ a, r.attempt = some a ∧ a.phase = .ordered k := by
  unfold Record.orderedStep at ordered
  split at ordered
  next a attempt =>
    split at ordered
    next j phase => cases ordered; exact ⟨a, attempt, phase⟩
    · cases ordered
  · cases ordered

/-! ### The frame at its record -/

section
variable {s : State} {l : LineId} {st : Station} {h : Handle} {r : Record} {mask : StepSet}

theorem exec_capability_record (hears : s.hears l = true) (unique : s.KeysUnique) (has : s.hasRecord h r l st) :
    exec (.capability l st mask) s = .next ((s.heardFrame l).capabilityRecord h r mask) := by
  rw [exec_capability hears, State.takeCapability, State.findKey_heardFrame, State.findKey_of_hasRecord unique has]
  dsimp only
  rw [State.record?_heardFrame, has.1]

theorem State.capabilityRecord_offered {a : Attempt} (state : r.state = .negotiating) (attempt : r.attempt = some a)
    (phase : a.phase = .offered) : s.capabilityRecord h r mask = s.capabilityOffered h r a mask := by
  unfold State.capabilityRecord
  simp only [state, attempt, phase]

theorem State.capabilityRecord_ordered {k : Step} (state : r.state = .negotiating) (ordered : r.orderedStep = some k) :
    s.capabilityRecord h r mask = s.capabilityOrdered h r k mask := by
  obtain ⟨a, attempt, phase⟩ := Record.orderedStep_eq_some ordered
  unfold State.capabilityRecord
  simp only [state, attempt, phase]

end

/-- Settles O38: the frame finds its record, and the record's state and phase say what the mask does. -/
theorem capabilityByRecord : Obligations.CapabilityByRecord := by
  refine ⟨fun s l st mask h r a hears unique has state attempt phase => ?_, fun p mask r => ⟨Record.takeMask_kept,
    Record.takeMask_dropped⟩, fun s l st mask h r hears unique has => ?_⟩
  · obtain ⟨-, rfl, rfl⟩ := id has
    intro p u r1 common
    obtain ⟨line, station⟩ := Record.takeMask_key p mask r
    rw [exec_capability_record hears unique has, State.capabilityRecord_offered state attempt phase, State.capabilityOffered]
    refine ⟨fun k holds top => ?_, fun no => ?_⟩
    · rw [StepSet.highest, highestStep_some.2 ⟨StepSet.has_and.2 holds, fun j hj => top j (StepSet.has_and.1 hj)⟩]
      rfl
    · rw [StepSet.highest, highestStep_none.2 fun k => by
        rw [← Bool.not_eq_true, StepSet.has_and]; exact no k]
      dsimp only
      rw [State.abandonAndFail, State.sendAbandon, State.profileOf_heardFrame, line, station]
  · obtain ⟨-, rfl, rfl⟩ := id has
    intro p u r1
    obtain ⟨line, station⟩ := Record.takeMask_key p mask r
    rw [exec_capability_record hears unique has]
    refine ⟨fun k state ordered member => ?_, fun k state ordered out => ?_, fun state => ?_, fun state => ?_, fun state => ?_,
      fun state => ?_⟩
    · rw [State.capabilityRecord_ordered state ordered, State.capabilityOrdered, if_pos member]
      rfl
    · rw [State.capabilityRecord_ordered state ordered, State.capabilityOrdered, if_neg (by rw [out]; decide)]
      rw [State.abandonAndFail, State.sendAbandon, State.profileOf_heardFrame, line, station]
    all_goals unfold State.capabilityRecord
    · simp only [state]
      rfl
    · simp only [state]
      rfl
    · obtain state | state := state <;> simp only [state] <;> rfl
    · obtain state | state | state := state <;> simp only [state] <;> rfl

end Sys2Proof.Machine
end


section
/-! The commit sweep: what a visit does to the record at its cursor, and to the counts (R37 to R40). -/

namespace Sys2Proof.Machine

/-- A hand-out gives nothing on a line that is not UP (R83). -/
theorem State.handOut_of_down {s : State} {l : LineId} (down : s.lineIsUp l = false) : s.handOut l = s := by
  unfold State.handOut
  cases 2 * (s.arbiters[l].urgent.length + s.arbiters[l].normal.length) with
  | zero => rfl
  | succ n => rw [handOutLoop, if_pos (by simp [down])]

@[simp] theorem State.lineIsUp_requeue (s : State) (h : Handle) (c : Cause) (l : LineId) :
    (s.requeue h c).lineIsUp l = s.lineIsUp l := by
  unfold State.requeue
  split
  · rfl
  · dsimp only
    split <;> rfl

/-! ### The counts (R37) -/

/-- A record of the committed profile was visited (R37). -/
def Sweep.seen (w : Sweep) : Sweep := { w with visited := w.visited + 1 }

/-- A visited record was moved toward WAITING, on a line that is UP or not (R37, R40). -/
def Sweep.moved (w : Sweep) (up : Bool) : Sweep :=
  if up then { w.seen with requeued := w.requeued + 1 } else { w.seen with parked := w.parked + 1 }

/-- A visited record was marked for a rerun (R37, R40). -/
def Sweep.marked (w : Sweep) : Sweep := { w.seen with rerun := w.rerun + 1 }

/-- The slot at the cursor has been examined (R37). -/
def Sweep.passed (w : Sweep) : Sweep := { w with cursor := w.cursor + 1 }

/-- One record more was visited, and it moved one of the other counts at most (R37). -/
def Sweep.CountsOne (w v : Sweep) : Prop :=
  v.profile = w.profile ∧ v.cursor = w.cursor ∧ v.visited = w.visited + 1 ∧
    v.requeued + v.parked + v.rerun ≤ w.requeued + w.parked + w.rerun + 1

theorem Sweep.countsOne_seen (w : Sweep) : w.CountsOne w.seen := ⟨rfl, rfl, rfl, Nat.le_succ _⟩

theorem Sweep.countsOne_moved (w : Sweep) (up : Bool) : w.CountsOne (w.moved up) := by
  cases up
  · exact ⟨rfl, rfl, rfl, by simp only [Sweep.moved, Sweep.seen]; dsimp; omega⟩
  · exact ⟨rfl, rfl, rfl, by simp only [Sweep.moved, Sweep.seen]; dsimp; omega⟩

theorem Sweep.countsOne_marked (w : Sweep) : w.CountsOne w.marked := ⟨rfl, rfl, rfl, le_refl _⟩

/-! ### The visit of a record (R40) -/

/-- The part of a state that the operations on the table neither read nor write. -/
def State.rest (s : State) : Rest :=
  { poweringOn := s.poweringOn, resetLow := s.resetLow, staging := s.staging, sweep := s.sweep, ladders := s.ladders
    port := s.port, spi := s.spi, lookup := s.lookup, flags := s.flags, enables := s.enables, pending := s.pending }

/-- The counts of a sweep matter to nothing that an event does to the table. -/
theorem State.requeue_handOut_sweep (s : State) (w : Option Sweep) (h : Handle) (c : Cause) (l : LineId) :
    (({ s with sweep := w } : State).requeue h c).handOut l = { (s.requeue h c).handOut l with sweep := w } := by
  have same : ({ s with sweep := w } : State) = s.withRest { s.rest with sweep := w } := rfl
  have outer : s.Outer ((s.requeue h c).handOut l) := (s.outer_requeue h c).trans (State.outer_handOut _ l)
  rw [same, State.requeue_withRest, State.handOut_withRest]
  unfold State.Outer at outer
  rw [outer]
  rfl

section
variable {s : State} {h : Handle} {r : Record} {w : Sweep}

/-- A record that holds no agreement is counted and left as it is (R40). -/
theorem State.visitRecord_idle (state : r.state = .waiting ∨ r.state = .backoff ∨ r.state = .parked ∨ r.state = .failed ∨
    r.state = .retiring) : s.visitRecord h r w = { s with sweep := some w.seen } := by
  unfold State.visitRecord
  rcases state with e | e | e | e | e <;> rw [e] <;> rfl

/-- An agreement that complies is counted and left as it is (R40). -/
theorem State.visitRecord_compliant (state : r.state = .agreed ∨ r.state = .holdover)
    (complies : r.agreed.any (nonCompliant (s.profileOf r.profile)) = false) :
    s.visitRecord h r w = { s with sweep := some w.seen } := by
  unfold State.visitRecord
  rcases state with e | e <;> rw [e] <;> simp only [complies] <;> rfl

/-- An agreement in breach moves toward WAITING with cause PROFILE (R40). -/
theorem State.visitRecord_breach (state : r.state = .agreed ∨ r.state = .holdover)
    (breach : r.agreed.any (nonCompliant (s.profileOf r.profile)) = true) :
    s.visitRecord h r w =
      { (s.requeue h .profile).handOut r.line with sweep := some (w.moved (s.lineIsUp r.line)) } := by
  rw [← State.requeue_handOut_sweep]
  unfold State.visitRecord
  rcases state with e | e <;> rw [e] <;> simp only [breach] <;> rfl

/-- An attempt in progress is marked for a rerun (R40). -/
theorem State.visitRecord_negotiating (state : r.state = .negotiating) :
    s.visitRecord h r w = { s.putRecord h { r with attempt := r.attempt.map fun a : Attempt => { a with rerun := true } } with
      sweep := some w.marked } := by
  unfold State.visitRecord
  rw [state]
  rfl

end

/-- What the visit of a record leaves of the table: a record that needs nothing stays, an agreement in breach moves toward
WAITING, an attempt is marked (R40). -/
inductive State.Visited (s : State) (h : Handle) (r : Record) : State → Prop
  | stays (complies : r.state = .agreed ∨ r.state = .holdover → r.agreed.any (nonCompliant (s.profileOf r.profile)) = false) :
    State.Visited s h r s
  | moves : State.Visited s h r ((s.requeue h .profile).handOut r.line)
  | marks (state : r.state = .negotiating) :
    State.Visited s h r (s.putRecord h { r with attempt := r.attempt.map fun a : Attempt => { a with rerun := true } })

theorem State.Visited.outer {s t : State} {h : Handle} {r : Record} (v : s.Visited h r t) : s.Outer t := by
  cases v with
  | stays => exact .refl s
  | moves => exact (s.outer_requeue h .profile).trans (State.outer_handOut _ _)
  | marks => exact s.outer_putRecord h _

theorem State.visitRecord_cases (s : State) (h : Handle) (r : Record) (w : Sweep) :
    ∃ t v, s.Visited h r t ∧ w.CountsOne v ∧ s.visitRecord h r w = { t with sweep := some v } := by
  have idle : r.state ≠ .agreed → r.state ≠ .holdover → s.Visited h r s := fun a b =>
    .stays fun state => (state.elim a b).elim
  have agreement (state : r.state = .agreed ∨ r.state = .holdover) :
      ∃ t v, s.Visited h r t ∧ w.CountsOne v ∧ s.visitRecord h r w = { t with sweep := some v } := by
    cases breach : r.agreed.any (nonCompliant (s.profileOf r.profile)) with
    | false => exact ⟨s, w.seen, .stays fun _ => breach, w.countsOne_seen, State.visitRecord_compliant state breach⟩
    | true => exact ⟨_, _, .moves, w.countsOne_moved _, State.visitRecord_breach state breach⟩
  cases e : r.state with
  | agreed => exact agreement (.inl e)
  | holdover => exact agreement (.inr e)
  | negotiating => exact ⟨_, w.marked, .marks e, w.countsOne_marked, State.visitRecord_negotiating e⟩
  | waiting | backoff | parked | failed | retiring =>
    exact ⟨s, w.seen, idle (by simp [e]) (by simp [e]), w.countsOne_seen, State.visitRecord_idle (by simp [e])⟩

/-! ### The visit of the slot at the cursor (R37, R39) -/

section
variable {s : State} {w : Sweep} {h : Handle}

theorem State.sweepVisit_at (run : s.sweep = some w) (cursor : w.cursor = h.val) :
    s.sweepVisit = match s.record? h with
      | none => { s with sweep := some w.passed }
      | some r => if r.profile = w.profile then s.visitRecord h r w.passed else { s with sweep := some w.passed } := by
  have below : w.cursor < 256 := cursor ▸ h.isLt
  have same : (⟨w.cursor, below⟩ : Handle) = h := Fin.ext cursor
  unfold State.sweepVisit
  rw [run]
  dsimp only
  rw [dif_pos below, same]
  rfl

/-- A slot without a record of the committed profile is passed over (R39). -/
theorem State.sweepVisit_other (run : s.sweep = some w) (cursor : w.cursor = h.val)
    (other : ∀ r, s.record? h = some r → r.profile ≠ w.profile) : s.sweepVisit = { s with sweep := some w.passed } := by
  rw [State.sweepVisit_at run cursor]
  cases hr : s.record? h with
  | none => rfl
  | some r => exact if_neg (other r hr)

/-- A record of the committed profile is visited (R39). -/
theorem State.sweepVisit_bound {r : Record} (run : s.sweep = some w) (cursor : w.cursor = h.val) (hr : s.record? h = some r)
    (bound : r.profile = w.profile) : s.sweepVisit = s.visitRecord h r w.passed := by
  rw [State.sweepVisit_at run cursor, hr]
  exact if_pos bound

/-- A visit passes the slot at the cursor and visits its record if that is bound to the committed profile. -/
theorem State.sweepVisit_cases (run : s.sweep = some w) (cursor : w.cursor = h.val) :
    ((∀ r, s.record? h = some r → r.profile ≠ w.profile) ∧ s.sweepVisit = { s with sweep := some w.passed }) ∨
    ∃ r t v, s.record? h = some r ∧ r.profile = w.profile ∧ s.Visited h r t ∧ w.passed.CountsOne v ∧
      s.sweepVisit = { t with sweep := some v } := by
  by_cases bound : ∃ r, s.record? h = some r ∧ r.profile = w.profile
  · obtain ⟨r, hr, bound⟩ := bound
    obtain ⟨t, v, visited, counts, e⟩ := s.visitRecord_cases h r w.passed
    exact .inr ⟨r, t, v, hr, bound, visited, counts, (State.sweepVisit_bound run cursor hr bound).trans e⟩
  · have other : ∀ r, s.record? h = some r → r.profile ≠ w.profile := fun r hr same => bound ⟨r, hr, same⟩
    exact .inl ⟨other, State.sweepVisit_other run cursor other⟩

/-- Past handle 255 nothing is left to examine (R37). -/
theorem State.sweepVisit_past (run : s.sweep = some w) (past : 256 ≤ w.cursor) : s.sweepVisit = s := by
  unfold State.sweepVisit
  rw [run]
  exact dif_neg (not_lt.2 past)

end

/-! ### The rows of the sweep (R37, R38) -/

theorem any_nonCompliant_iff {p : Profile} {o : Option Step} :
    o.any (nonCompliant p) = true ↔ ∃ k ∈ o, nonCompliant p k = true := by
  cases o <;> simp

theorem exec_sweepVisit {s : State} (running : s.running = true) : exec .sweepVisit s = .next s.sweepVisit := by
  show Host.Outcome.next (if s.running then _ else s) = _
  rw [if_pos running]

theorem exec_commitSweepEnd {s : State} (running : s.running = true) : exec .commitSweepEnd s = .next s.sweepEnd := by
  show Host.Outcome.next (if s.running then _ else s) = _
  rw [if_pos running]

/-- Past handle 255 the command completes with the four counts (R37, R164). -/
theorem State.sweepEnd_past {s : State} {w : Sweep} (run : s.sweep = some w) (past : 256 ≤ w.cursor) :
    s.sweepEnd = ({ s with sweep := none } : State).complete .ok
      [wordOf w.visited, wordOf w.requeued, wordOf w.parked, wordOf w.rerun] := by
  unfold State.sweepEnd
  rw [run]
  exact if_neg (not_lt.2 past)

/-- Settles O27: the slot at the cursor, then its record by its state, and the end of the sweep. -/
theorem sweepVisitsSlotBySlot : Obligations.SweepVisitsSlotBySlot := by
  refine ⟨fun s w running run => ⟨fun h cursor => ?_, fun past => ?_⟩, fun p k => ?_⟩
  · rw [exec_sweepVisit running]
    refine ⟨fun empty => ?_, fun r hr => ⟨fun other => ?_, fun bound => ?_⟩⟩
    · rw [State.sweepVisit_other run cursor fun r hr => absurd (empty.symm.trans hr) nofun]
      rfl
    · rw [State.sweepVisit_other run cursor fun x hx => Option.some.inj (hr.symm.trans hx) ▸ other]
      rfl
    · rw [State.sweepVisit_bound run cursor hr bound]
      have content : s.profileOf w.profile = s.profileOf r.profile := by rw [bound]
      simp only [content, ← any_nonCompliant_iff, Bool.not_eq_true]
      refine ⟨fun idle => ?_, fun state complies => ?_, fun state breach up => ?_, fun state breach down => ?_, fun state => ?_⟩
      · rw [State.visitRecord_idle idle]
        rfl
      · rw [State.visitRecord_compliant state complies]
        rfl
      · rw [State.visitRecord_breach state breach, up]
        rfl
      · rw [State.visitRecord_breach state breach, down,
          State.handOut_of_down ((s.lineIsUp_requeue h .profile r.line).trans down)]
        rfl
      · rw [State.visitRecord_negotiating state]
        rfl
  · rw [exec_commitSweepEnd running, State.sweepEnd_past run past]
    rfl
  · simp only [nonCompliant, Bool.or_eq_true, Bool.not_eq_true', decide_eq_true_eq, or_assoc]

end Sys2Proof.Machine
end


section
/-! 256 visits leave no agreement in breach of the committed profile (R37 to R40). -/

namespace Sys2Proof.Machine

/-- The record of a slot, if it is bound to a profile and holds an agreement, complies with that profile (R38). -/
def State.Complies (p : Fin 16) (h : Handle) (s : State) : Prop :=
  ∀ r, s.record? h = some r → r.profile = p → r.state = .agreed ∨ r.state = .holdover →
    ∀ k, r.agreed = some k → nonCompliant (s.profileOf p) k = false

section
variable {p : Fin 16} {h k : Handle} {s t : State}

theorem State.Complies.congr (record : t.record? h = s.record? h) (profiles : t.profiles = s.profiles)
    (c : s.Complies p h) : t.Complies p h := by
  unfold State.Complies State.profileOf at *
  rwa [record, profiles]

theorem State.complies_empty (empty : s.record? h = none) : s.Complies p h := fun _ hr => absurd (empty.symm.trans hr) nofun

/-- A record that holds no agreement complies. -/
theorem State.complies_away {r : Record} (hr : s.record? h = some r) (agreed : r.state ≠ .agreed) (holdover : r.state ≠ .holdover) :
    s.Complies p h := by
  intro x hx _ state
  cases hr.symm.trans hx
  exact (state.elim agreed holdover).elim

/-- What happens to one slot leaves the others in compliance (R38). -/
theorem State.Complies.other (o : s.Outer t) (one : s.OnlySlot h t) (hk : k ≠ h) (c : s.Complies p k) : t.Complies p k :=
  c.congr (s.record?_congr (one.1 k hk)) (by rw [o])

/-! ### The hand-out keeps compliance -/

/-- A requeued record holds no agreement (R82). -/
theorem State.complies_requeue (s : State) (h : Handle) (c : Cause) : (s.requeue h c).Complies p h := by
  unfold State.requeue
  split
  next empty => exact State.complies_empty empty
  · dsimp only
    split
    · exact State.complies_away (State.record?_putRecord_same _ _ _) nofun nofun
    · exact State.complies_away (State.record?_putRecord_same _ _ _) nofun nofun

/-- An agreement that passes the post-agreement check complies (R96). -/
theorem State.complies_postCheck (s : State) (h : Handle) : (s.postCheck h).Complies p h := by
  unfold State.postCheck
  split
  next empty => exact State.complies_empty empty
  next r hr =>
    split
    next none =>
      intro x hx _ _ k agreed
      cases hr.symm.trans hx
      exact absurd (none.symm.trans agreed) nofun
    next j stands =>
      split
      · exact State.complies_requeue s h _
      split
      · exact State.complies_requeue s h _
      split
      · exact State.complies_requeue s h _
      next complies =>
        intro x hx bound _ k agreed
        cases hr.symm.trans hx
        cases stands.symm.trans agreed
        rw [← bound]
        simpa using complies

/-- Passing on into HOLDOVER keeps the agreed step and the binding (R111). -/
theorem State.Complies.passToHoldover (c : s.Complies p h) : (s.passToHoldover h).Complies p h := by
  unfold State.passToHoldover
  split
  · exact c
  next r hr =>
    dsimp only
    split
    next agreed =>
      intro x hx bound _ k step
      cases (State.record?_putRecord_same _ _ _).symm.trans hx
      exact c r hr bound (.inl agreed.1) k step
    · exact c

/-- A record whose attempt fails for another reason than its carrier holds no agreement, or one that has passed the check of
R96 (R98, R99). -/
theorem State.complies_failAttempt (s : State) (h : Handle) {w : FailReason} (carrier : w ≠ .noCarrier) :
    (s.failAttempt h w).Complies p h := by
  unfold State.failAttempt
  split
  next empty => exact State.complies_empty empty
  · dsimp only
    split
    · unfold State.returnQualityUp
      dsimp only
      rw [if_neg carrier]
      exact (State.complies_postCheck _ h).passToHoldover
    · unfold State.placeBackoff
      dsimp only
      split <;> exact State.complies_away (State.record?_putRecord_same _ _ _) nofun nofun

/-- A record that starts an attempt holds no agreement, unless the attempt fails at once (R87). -/
theorem State.complies_startAttempt (s : State) (l : LineId) (h : Handle) : (s.startAttempt l h).Complies p h := by
  obtain ⟨empty, e⟩ | ⟨r, -, ⟨offer, e⟩ | e⟩ := s.startAttempt_cases l h <;> rw [e]
  · exact State.complies_empty empty
  · exact State.complies_away ((State.record?_sendDown _ _ _ _).trans (State.record?_putRecord_same _ _ _)) nofun nofun
  · exact State.complies_failAttempt _ h nofun

/-- The hand-out puts no agreement in breach (R83). -/
theorem State.Complies.handOut (c : s.Complies p k) (l : LineId) : (s.handOut l).Complies p k := by
  unfold State.handOut
  generalize 2 * (s.arbiters[l].urgent.length + s.arbiters[l].normal.length) = n
  induction n generalizing s with
  | zero => exact c
  | succ n ih =>
    obtain e | ⟨h, -, e⟩ := handOutLoop_cases n l s <;> rw [e]
    · exact c
    · refine ih ?_
      by_cases hk : k = h
      · subst hk
        exact State.complies_startAttempt _ l k
      · exact State.Complies.other (State.outer_startAttempt _ l h) (State.onlySlot_startAttempt _ l h) hk c

/-! ### The visits -/

/-- A visited record complies (R38, R40). -/
theorem State.Visited.complies {r : Record} (hr : s.record? h = some r) (v : s.Visited h r t) (bound : r.profile = p) :
    t.Complies p h := by
  cases v with
  | stays complies =>
    intro x hx _ state k agreed
    cases hr.symm.trans hx
    have := complies state
    rwa [bound, agreed] at this
  | moves => exact (s.complies_requeue h .profile).handOut r.line
  | marks state => exact State.complies_away (State.record?_putRecord_same _ _ _) (by simp [state]) (by simp [state])

/-- The visit of one record puts no other agreement in breach (R40). -/
theorem State.Visited.others {r : Record} (v : s.Visited h r t) (hk : k ≠ h) (c : s.Complies p k) : t.Complies p k := by
  cases v with
  | stays => exact c
  | moves => exact (c.other (s.outer_requeue h .profile) (s.onlySlot_requeue h .profile) hk).handOut r.line
  | marks => exact c.other (s.outer_putRecord h _) (s.onlySlot_putRecord h _) hk

/-- A sweep of profile `p` in `s` has come to handle `n`, and every slot below it complies (R37 to R40). -/
structure State.SweptTo (s : State) (p : Fin 16) (n : Nat) (t : State) : Prop where
  running : t.running = true
  profiles : t.profiles = s.profiles
  sweep : ∃ v, t.sweep = some v ∧ v.profile = p ∧ v.cursor = n
  complies : ∀ h : Handle, h.val < n → t.Complies p h

theorem State.SweptTo.visit {u : State} {n : Nat} (a : s.SweptTo p n u) (more : n < 256) : s.SweptTo p (n + 1) u.sweepVisit := by
  obtain ⟨running, profiles, ⟨v, run, rfl, rfl⟩, complies⟩ := a
  obtain ⟨other, e⟩ | ⟨r, t, v', hr, bound, visited, counts, e⟩ :=
    State.sweepVisit_cases (h := ⟨v.cursor, more⟩) run rfl <;> rw [e]
  · refine ⟨running, profiles, ⟨v.passed, rfl, rfl, rfl⟩, fun h below => ?_⟩
    rcases Nat.lt_succ_iff_lt_or_eq.1 below with earlier | here
    · exact complies h earlier
    · cases (Fin.ext here : h = ⟨v.cursor, more⟩)
      exact fun r hr bound => absurd bound (other r hr)
  · have outer : u.Outer t := visited.outer
    obtain ⟨profile, cursor, -, -⟩ := counts
    refine ⟨?_, ?_, ⟨v', rfl, profile, cursor⟩, fun h below => ?_⟩
    · rw [outer]; exact running
    · rw [outer]; exact profiles
    · show t.Complies v.profile h
      rcases Nat.lt_succ_iff_lt_or_eq.1 below with earlier | here
      · exact visited.others (fun same => absurd (congrArg Fin.val same) (Nat.ne_of_lt earlier)) (complies h earlier)
      · cases (Fin.ext here : h = ⟨v.cursor, more⟩)
        exact visited.complies hr bound

/-- So many visits from the first handle on (R37). -/
theorem State.sweptTo_iterate {w : Sweep} (running : s.running = true) (run : s.sweep = some w) (start : w.cursor = 0) :
    ∀ n ≤ 256, s.SweptTo w.profile n ((State.after .sweepVisit)^[n] s) := by
  intro n most
  induction n with
  | zero => exact ⟨running, rfl, ⟨w, run, rfl, start⟩, fun h below => absurd below (Nat.not_lt_zero _)⟩
  | succ n ih =>
    have before := ih (Nat.le_of_succ_le most)
    rw [Function.iterate_succ_apply', State.after, exec_sweepVisit before.running]
    exact before.visit most

end

/-- Settles O28, by induction on the visits: what has been examined complies, and no visit puts it in breach again. -/
theorem sweepLeavesNoBreach : Obligations.SweepLeavesNoBreach := by
  intro s w running run start t
  obtain ⟨-, profiles, ⟨v, swept, profile, cursor⟩, complies⟩ := State.sweptTo_iterate running run start 256 (le_refl _)
  refine ⟨⟨v, swept, profile, cursor⟩, profiles, fun h r hr bound state k agreed => ?_⟩
  have := complies h h.isLt r hr bound state k agreed
  rwa [State.profileOf, profiles] at this

end Sys2Proof.Machine
end


section
/-! GO, the results and the counts of a sweep, row by row (R37, R159, R165). -/

namespace Sys2Proof.Machine

/-! ### Rows that are not the port's -/

/-- The sweep, the port, ENABLES and COMMAND_DONE stay as they are. -/
structure State.Quiet (s t : State) : Prop where
  sweep : t.sweep = s.sweep
  port : t.port = s.port
  enables : t.enables = s.enables
  commandDone : t.flags.commandDone = s.flags.commandDone

theorem State.Quiet.refl (s : State) : s.Quiet s := ⟨rfl, rfl, rfl, rfl⟩

theorem State.Quiet.trans {s t u : State} (a : s.Quiet t) (b : t.Quiet u) : s.Quiet u :=
  ⟨b.sweep.trans a.sweep, b.port.trans a.port, b.enables.trans a.enables, b.commandDone.trans a.commandDone⟩

theorem State.Quiet.of_outer {s t : State} (o : s.Outer t) : s.Quiet t := by
  rw [o]
  exact ⟨rfl, rfl, rfl, rfl⟩

theorem State.quiet_setTableFull (s : State) : s.Quiet s.setTableFull := ⟨rfl, rfl, rfl, rfl⟩

theorem State.quiet_discardQuery (s : State) : s.Quiet s.discardQuery := ⟨rfl, rfl, rfl, rfl⟩

/-- An admission that finds a slot sets NOTICE_LOST at most (R15). -/
theorem State.quiet_place {s t : State} {l : LineId} {st : Station} {p : Fin 16} {mask : Option StepSet} {c : Cause} {h : Handle}
    (e : s.place l st p mask c = .placed h t) : s.Quiet t := by
  have allocated : ∀ k r, s.Quiet (s.allocate k r) := fun k r => by
    unfold State.allocate
    dsimp only
    split <;> exact ⟨rfl, rfl, rfl, rfl⟩
  unfold State.place at e
  split at e
  · cases e
  split at e
  · cases e
  · cases e
    split
    · exact (allocated _ _).trans (.of_outer (State.outer_modArbiter _ _ _))
    · exact allocated _ _

theorem State.quiet_takeCapability (s : State) (l : LineId) (st : Station) (mask : StepSet) :
    s.Quiet ((s.heardFrame l).takeCapability l st mask) := by
  have refused : ∀ u : State, u.Quiet (u.refuseLineBorn l st) := fun u =>
    .of_outer ((u.outer_sendDown _ _).trans (State.outer_modLine _ _ _))
  have born : ∀ u : State, u.Quiet (u.lineBorn l st mask) := fun u => by
    unfold State.lineBorn
    split
    · exact refused u
    · split
      · exact refused u
      · exact u.quiet_setTableFull.trans (refused _)
      next placed => exact (State.quiet_place placed).trans (.of_outer (State.outer_handOut _ _))
  refine State.Quiet.trans (t := s.heardFrame l) (.of_outer (s.outer_modLine l _)) ?_
  unfold State.takeCapability
  split
  · exact born _
  · split
    · exact born _
    · exact .of_outer (State.outer_capabilityRecord _ _ _ _)

theorem State.quiet_query (s : State) (tag : Tag) {f : State → Applied} (hf : s.Outer (f s).state) : s.Quiet (s.query tag f) := by
  obtain ⟨-, e⟩ | ⟨-, -, -, e⟩ | ⟨-, -, -, e⟩ := s.query_cases tag f <;> rw [e]
  · exact .refl s
  · exact s.quiet_discardQuery
  · exact (State.Quiet.of_outer hf).trans ⟨rfl, rfl, rfl, rfl⟩

/-! ### The owners of the host commands -/

theorem State.Quiet.of_eq {s t : State} (e : t = s) : s.Quiet t := e ▸ .refl s

theorem quiet_cmdAdmit (s : State) : s.Quiet (cmdAdmit s).state := by
  obtain e | e | ⟨l, st, p, h, t, -, -, placed, e⟩ := cmdAdmit_cases s <;> rw [e]
  · exact .refl s
  · exact s.quiet_setTableFull
  · exact (State.quiet_place placed).trans (.of_outer (t.outer_handOut l))

theorem quiet_cmdRebind (s : State) : s.Quiet (cmdRebind s).state := by
  obtain e | ⟨h, r, p, -, -, -, e⟩ := cmdRebind_cases s <;> rw [e]
  · exact .refl s
  · exact .of_outer (((s.outer_putRecord _ _).trans (State.outer_rebindReact _ _ _)).trans (State.outer_handOut _ _))

theorem quiet_cmdCap (s : State) : s.Quiet (cmdCap s).state := by
  obtain e | ⟨h, r, p, -, -, e⟩ := cmdCap_cases s <;> rw [e]
  · exact .refl s
  · exact .of_outer (((s.outer_putRecord _ _).trans (State.outer_capReact _ _ _)).trans (State.outer_handOut _ _))

theorem quiet_cmdRenegotiate (s : State) : s.Quiet (cmdRenegotiate s).state := by
  obtain e | ⟨h, r, -, ⟨-, -, e⟩ | ⟨-, e⟩ | ⟨-, e⟩⟩ := cmdRenegotiate_cases s <;> rw [e]
  · exact .refl s
  · exact .of_outer ((s.outer_requeue _ _).trans (State.outer_handOut _ _))
  · exact .of_outer (((s.outer_putRecord _ _).trans (State.outer_requeue _ _ _)).trans (State.outer_handOut _ _))
  · exact .of_outer ((s.outer_requeue _ _).trans (State.outer_handOut _ _))

theorem quiet_cmdRetire (s : State) : s.Quiet (cmdRetire s).state := by
  obtain e | ⟨h, r, -, -, ⟨-, e⟩ | ⟨-, g, e⟩⟩ := cmdRetire_cases s <;> rw [e]
  · exact .refl s
  · exact .of_outer ((((s.outer_detach h r).trans (State.outer_putRecord _ _ _)).trans (State.outer_leaveTable _ _)).trans
      (State.outer_handOut _ _))
  · exact .of_outer (((s.outer_detach h r).trans (State.outer_putRecord _ _ _)).trans (State.outer_handOut _ _))

theorem quiet_cmdAckChange (s : State) : s.Quiet (cmdAckChange s).state := by
  obtain e | ⟨h, kinds, -, e⟩ := cmdAckChange_cases s <;> rw [e]
  · exact .refl s
  · exact .of_outer (s.outer_setBody _ _)

theorem quiet_cmdProfileStage (s : State) : s.Quiet (cmdProfileStage s).state := by
  obtain e | ⟨n, w, p, -, e⟩ := cmdProfileStage_cases s <;> rw [e]
  · exact .refl s
  · exact ⟨rfl, rfl, rfl, rfl⟩

theorem quiet_cmdProfileLoad (s : State) : s.Quiet (cmdProfileLoad s).state := by
  obtain e | ⟨n, p, -, e⟩ := cmdProfileLoad_cases s <;> rw [e]
  · exact .refl s
  · exact ⟨rfl, rfl, rfl, rfl⟩

theorem quiet_cmdLadderWrite (s : State) : s.Quiet (cmdLadderWrite s).state := by
  obtain e | ⟨l, k, g, -, e⟩ := cmdLadderWrite_cases s <;> rw [e]
  · exact .refl s
  · exact ⟨rfl, rfl, rfl, rfl⟩

theorem quiet_cmdLineConfig (s : State) : s.Quiet (cmdLineConfig s).state := by
  obtain e | ⟨l, p, quota, mode, keepalive, -, -, -, -, -, e⟩ := cmdLineConfig_cases s <;> rw [e]
  · exact .refl s
  · exact .of_outer (s.outer_modLine _ _)

theorem quiet_cmdLineReset (s : State) : s.Quiet (cmdLineReset s).state := by
  obtain e | ⟨l, e⟩ := cmdLineReset_cases s <;> rw [e]
  · exact .refl s
  · exact .of_outer ((s.outer_modLine _ _).trans (State.outer_lineLeavesUp _ _))

theorem quiet_cmdLineAck (s : State) : s.Quiet (cmdLineAck s).state := by
  obtain e | ⟨l, c, e⟩ := cmdLineAck_cases s <;> rw [e]
  · exact .refl s
  · exact .of_outer (s.outer_modLine _ _)

theorem quiet_cmdClearTable (s : State) : s.Quiet (cmdClearTable s).state := by
  have visits : s.Outer (s.forHandles fun h t => t.clearVisit h) :=
    s.outer_forHandles fun h t => t.outer_clearVisit h
  rw [cmdClearTable_state]
  generalize s.forHandles (fun h t => t.clearVisit h) = u at visits ⊢
  exact (State.Quiet.of_outer visits).trans ⟨rfl, rfl, rfl, rfl⟩

/-- Every owner but that of PROFILE_COMMIT leaves the port and the sweep to the port. -/
theorem commandOf_quiet (code : Word) :
    commandOf code = cmdProfileCommit ∨ ∀ s : State, s.Quiet (commandOf code s).state :=
  commandOf_cases (P := fun body => body = cmdProfileCommit ∨ ∀ s : State, s.Quiet (body s).state)
    (.inr quiet_cmdAdmit) (.inr fun s => .of_eq (cmdFind_state s)) (.inr fun s => .of_eq (cmdRead_state s)) (.inr quiet_cmdRebind)
    (.inr quiet_cmdCap) (.inr quiet_cmdRenegotiate) (.inr quiet_cmdRetire) (.inr fun s => .of_eq (cmdNextChange_state s))
    (.inr quiet_cmdAckChange) (.inr quiet_cmdProfileStage) (.inr quiet_cmdProfileLoad) (.inl rfl)
    (.inr fun s => .of_eq (cmdProfileRead_state s)) (.inr quiet_cmdLadderWrite) (.inr fun s => .of_eq (cmdLadderRead_state s))
    (.inr quiet_cmdLineConfig) (.inr fun s => .of_eq (cmdLineRead_state s)) (.inr quiet_cmdLineReset) (.inr quiet_cmdLineAck)
    (.inr quiet_cmdClearTable) (.inr fun s => .of_eq (cmdIdent_state s)) (.inr fun s => .of_eq (cmdUnknown_state s)) code

/-- The command is done in the event that starts it (R165). -/
def CmdResult.isDone : CmdResult → Bool
  | .done _ _ _ => true
  | .running _ => false

/-- Every owner but that of PROFILE_COMMIT is done on each of its branches (R165). -/
theorem commandOf_isDone (code : Word) :
    commandOf code = cmdProfileCommit ∨ ∀ s : State, (commandOf code s).isDone = true := by
  refine commandOf_cases (P := fun body => body = cmdProfileCommit ∨ ∀ s : State, (body s).isDone = true)
    ?admission ?find ?read ?rebind ?cap ?renegotiate ?retire ?nextChange ?ackChange ?stage ?load ?commit ?readProfile ?ladderWrite
    ?ladderRead ?lineConfig ?lineRead ?lineReset ?lineAck ?clearTable ?ident ?unknown code
  case commit => exact .inl rfl
  all_goals
    refine .inr fun s => ?_
    simp only [cmdAdmit, cmdFind, cmdRead, cmdRebind, cmdCap, cmdRenegotiate, cmdRetire, cmdNextChange, cmdAckChange,
      cmdProfileStage, cmdProfileLoad, cmdProfileRead, cmdLadderWrite, cmdLadderRead, cmdLineConfig, cmdLineRead, cmdLineReset,
      cmdLineAck, cmdClearTable, cmdIdent, cmdUnknown]
    repeat' split
    all_goals rfl

/-- The sweep that a commit begins (R37). -/
def Sweep.first (n : Fin 16) : Sweep := { profile := n, cursor := 0, visited := 0, requeued := 0, parked := 0, rerun := 0 }

/-- PROFILE_COMMIT is refused, or it copies staging and begins the sweep (R35, R36, R37). -/
theorem cmdProfileCommit_answer (s : State) : (∃ res, cmdProfileCommit s = .done s .badArg res) ∨
    ∃ n : Fin 16, cmdProfileCommit s =
      .running { s with profiles := s.profiles.set n (some s.staging), sweep := some (Sweep.first n) } := by
  unfold cmdProfileCommit
  split
  · exact .inl ⟨_, rfl⟩
  · split
    · exact .inl ⟨_, rfl⟩
    · exact .inr ⟨_, rfl⟩

/-- Every command is done at once and leaves the sweep as it is, or begins the sweep of a commit (R159, R165). -/
theorem commandOf_answer (code : Word) (s : State) :
    (∃ t status res, commandOf code s = .done t status res ∧ s.Quiet t) ∨
    ∃ n : Fin 16, commandOf code s =
      .running { s with profiles := s.profiles.set n (some s.staging), sweep := some (Sweep.first n) } := by
  by_cases commit : commandOf code = cmdProfileCommit
  · rw [commit]
    exact (cmdProfileCommit_answer s).imp_left fun ⟨res, e⟩ => ⟨s, .badArg, res, e, .refl s⟩
  have quiet := (commandOf_quiet code).resolve_left commit s
  have done := (commandOf_isDone code).resolve_left commit s
  cases e : commandOf code s with
  | done t status res =>
    rw [e] at quiet
    exact .inl ⟨t, status, res, rfl, quiet⟩
  | running t =>
    rw [e] at done
    cases done

/-! ### The port's own rows -/

/-- The port says what its sweep does, and the counts fit the cursor (R37, R159, R165). -/
def State.PortHeld (s : State) : Prop := s.PortOk ∧ s.SweepOk

section
variable {s t : State}

theorem State.Quiet.keeps (q : s.Quiet t) (held : s.PortHeld) : t.PortHeld := by
  unfold State.PortHeld State.PortOk State.SweepOk at *
  rwa [q.sweep, q.port, q.enables, q.commandDone]

theorem State.PortHeld.ite {c : Prop} [Decidable c] (held : s.PortHeld) (k : t.PortHeld) : (if c then t else s).PortHeld := by
  split
  · exact k
  · exact held

/-- While GO reads zero no sweep runs (R159, R165). -/
theorem State.PortHeld.idle (held : s.PortHeld) (go : s.port.go = false) : s.sweep = none := by
  obtain ⟨⟨same, -⟩, -⟩ := held
  rw [go] at same
  exact Option.not_isSome_iff_eq_none.1 (by rw [← same]; nofun)

/-- A part whose GO reads zero and that sweeps nothing needs no more than its ENABLES. -/
theorem State.portHeld_idle (go : s.port.go = false) (sweep : s.sweep = none) (enables : s.enables &&& ~~~Config.enablesMask = 0) :
    s.PortHeld := by
  refine ⟨⟨by rw [go, sweep]; rfl, fun busy => ?_, enables⟩, fun w run => ?_⟩
  · rw [go] at busy
    cases busy
  · rw [sweep] at run
    cases run

/-- A command that is taken completes, or its sweep begins (R159, R165). -/
theorem State.PortHeld.startCommand (held : s.PortHeld) (go : s.port.go = false) (code : Word) (port : HostPort) :
    (({ s with port := port } : State).startCommand (commandOf code)).PortHeld := by
  have idle := held.idle go
  obtain ⟨⟨-, -, enables⟩, -⟩ := held
  unfold State.startCommand
  obtain ⟨t, status, res, e, quiet⟩ | ⟨n, e⟩ := commandOf_answer code ({ s with port := port } : State).began <;> rw [e]
  · exact State.portHeld_idle rfl (quiet.sweep.trans idle) ((congrArg (· &&& ~~~Config.enablesMask) quiet.enables).trans enables)
  · exact ⟨⟨rfl, fun _ => ⟨rfl, rfl, rfl⟩, enables⟩, fun w run => by cases run; exact ⟨Nat.zero_le _, le_refl _, le_refl _⟩⟩

theorem State.PortHeld.issue (held : s.PortHeld) (code : Word) (args : List Word) :
    (s.issue code args (commandOf code)).PortHeld := by
  unfold State.issue
  split
  · exact held
  split
  · exact held
  next go => exact held.startCommand (by simpa using go) code _

theorem State.PortHeld.writeGo (held : s.PortHeld) : s.writeGo.PortHeld := by
  unfold State.writeGo
  split
  · exact held
  next go => exact held.startCommand (by simpa using go) _ s.port

/-- A mailbox write moves no word that GO asks for (R158, R160). -/
theorem State.PortHeld.writeMailbox (held : s.PortHeld) (w : MailboxWord) (v : Word) : (s.writeMailbox w v).PortHeld := by
  unfold State.writeMailbox
  split
  · exact held
  · cases w <;> exact held

/-- A write to FLAGS sets no COMMAND_DONE (R151). -/
theorem State.PortHeld.writeFlags (held : s.PortHeld) (v : Word) : (s.writeFlags v).PortHeld := by
  obtain ⟨⟨go, busy, enables⟩, sweep⟩ := held
  refine ⟨⟨go, fun run => ?_, enables⟩, sweep⟩
  obtain ⟨done, words⟩ := busy run
  exact ⟨by simp [State.writeFlags, StickyFlags.clear, done], words⟩

/-- A write to ENABLES holds the named bits alone (R152). -/
theorem State.PortHeld.writeEnables (held : s.PortHeld) (v : Word) : (s.writeEnables v).PortHeld := by
  obtain ⟨⟨go, busy, -⟩, sweep⟩ := held
  refine ⟨⟨go, busy, ?_⟩, sweep⟩
  rw [State.writeEnables, BitVec.and_assoc]
  simp [Config.enablesMask]

theorem State.PortHeld.writePortStatus (held : s.PortHeld) (v : Word) : (s.writePortStatus v).PortHeld := held

theorem State.PortHeld.writeWord (held : s.PortHeld) (a : BitVec 5) (v : Word) : (s.writeWord a v).PortHeld := by
  unfold State.writeWord
  dsimp only
  split
  · split
    · exact held.writeGo
    · exact held
  split
  · exact held.writePortStatus v
  split
  · exact held.writeFlags v
  split
  · exact held.writeEnables v
  split
  · exact held.writeMailbox _ v
  split
  · exact held.writeMailbox _ v
  · exact held

/-! ### The sweep -/

/-- The words of the port and the counts of another sweep in the place of one that runs. -/
theorem State.PortHeld.sweeps {w v : Sweep} (held : s.PortHeld) (run : s.sweep = some w) (o : s.Outer t)
    (fits : v.cursor ≤ 256 ∧ v.visited ≤ v.cursor ∧ v.requeued + v.parked + v.rerun ≤ v.visited) :
    State.PortHeld { t with sweep := some v } := by
  obtain ⟨⟨go, busy, enables⟩, -⟩ := held
  rw [o]
  refine ⟨⟨?_, busy, enables⟩, fun x e => ?_⟩
  · show s.port.go = true
    rw [go, run]
    rfl
  · cases e
    exact fits

/-- A visit adds one to the slots examined, at most one to the records visited, and at most one to the other counts (R37). -/
theorem State.PortHeld.sweepVisit (held : s.PortHeld) : s.sweepVisit.PortHeld := by
  cases run : s.sweep with
  | none =>
    have same : s.sweepVisit = s := by rw [State.sweepVisit, run]
    rwa [same]
  | some w =>
    obtain ⟨-, visited, counts⟩ := held.2 w run
    by_cases more : w.cursor < 256
    · obtain ⟨-, e⟩ | ⟨r, t, v, -, -, moved, ⟨-, cursor, one, others⟩, e⟩ :=
        State.sweepVisit_cases (h := ⟨w.cursor, more⟩) run rfl <;> rw [e]
      · exact held.sweeps run (.refl s) ⟨more, Nat.le_succ_of_le visited, counts⟩
      · refine held.sweeps run moved.outer ?_
        simp only [Sweep.passed] at cursor one others
        omega
    · rwa [State.sweepVisit_past run (not_lt.1 more)]

theorem State.PortHeld.sweepEnd (held : s.PortHeld) : s.sweepEnd.PortHeld := by
  unfold State.sweepEnd
  split
  · exact held
  · split
    · exact held
    · obtain ⟨⟨-, -, enables⟩, -⟩ := held
      exact State.portHeld_idle rfl rfl enables

/-! ### Every row -/

theorem State.reset_portHeld (p r : Bool) (n : Nat) (x : Spi) (q : List Instr) :
    State.PortHeld { State.reset with poweringOn := p, resetLow := r, now := n, spi := x, pending := q } :=
  State.portHeld_idle rfl rfl (show Config.enablesReset &&& ~~~Config.enablesMask = 0 by decide)

/-- No row but a host command, a write to the window, a reset or the sweep's own concerns the port. -/
theorem exec_portHeld (c : Instr) (held : s.PortHeld) : ∃ t, exec c s = .next t ∧ t.PortHeld := by
  have outer {t : State} (o : s.Outer t) : t.PortHeld := (State.Quiet.of_outer o).keeps held
  by_cases host : hostCommand? c = none
  · cases c
    case powerOn | resetn => exact ⟨_, rfl, State.reset_portHeld _ _ _ _ _⟩
    case powerOnEnd | resetnRelease => exact ⟨_, rfl, held⟩
    case goWhileBusy => exact ⟨_, rfl, held.ite held.writeGo⟩
    case mailboxWrite w v => exact ⟨_, rfl, held.ite (held.writeMailbox w v)⟩
    case flagsWrite v => exact ⟨_, rfl, held.ite (held.writeFlags v)⟩
    case enablesWrite v => exact ⟨_, rfl, held.ite (held.writeEnables v)⟩
    case portStatusWrite v => exact ⟨_, rfl, held.ite (held.writePortStatus v)⟩
    case registerWrite a v => exact ⟨_, rfl, held.ite (held.writeWord a v)⟩
    case sweepVisit => exact ⟨_, rfl, held.ite held.sweepVisit⟩
    case commitSweepEnd => exact ⟨_, rfl, held.ite held.sweepEnd⟩
    case lineUp l k => exact ⟨_, rfl, held.ite (outer (s.outer_takeLineUp l k))⟩
    case lineDown l => exact ⟨_, rfl, held.ite (outer (s.outer_takeLineDown l))⟩
    case alive l => exact ⟨_, rfl, held.ite (outer (s.outer_modLine l _))⟩
    case capability l st mask => exact ⟨_, rfl, held.ite ((s.quiet_takeCapability l st mask).keeps held)⟩
    case outcome l st w => exact ⟨_, rfl, held.ite (outer (s.outer_toStation l st (State.outer_takeOutcome · w)))⟩
    case confirm l st k => exact ⟨_, rfl, held.ite (outer (s.outer_toStation l st (State.outer_takeConfirm · k)))⟩
    case carrier l st w => exact ⟨_, rfl, held.ite (outer (s.outer_toStation l st (State.outer_takeCarrier · w)))⟩
    case quality l st v => exact ⟨_, rfl, held.ite (outer (s.outer_toStation l st (State.outer_takeQuality · v)))⟩
    case malformedFrame l => exact ⟨_, rfl, held.ite (outer (s.outer_takeMalformed l))⟩
    case frameTransmission l => exact ⟨_, rfl, held.ite (outer (s.outer_modLine l _))⟩
    case frameTransmissionComplete l => exact ⟨_, rfl, held.ite (outer (s.outer_modLine l _))⟩
    case silenceExpiry l =>
      refine ⟨_, rfl, ?_⟩
      split
      · exact held
      · exact held.ite (outer (s.outer_loseLine l))
    case negotiationTimerExpiry h => exact ⟨_, rfl, outer (s.outer_expire h fun r => s.outer_abandonAndFail h r .timeout)⟩
    case confirmTimerExpiry h => exact ⟨_, rfl, outer (s.outer_expire h fun r => s.outer_abandonAndFail h r .timeout)⟩
    case holdoverExpiry h =>
      exact ⟨_, rfl, outer (s.outer_expire h fun r =>
        ((s.outer_putRecord _ _).trans (State.outer_requeue _ _ _)).trans (State.outer_handOut _ _))⟩
    case backoffExpiry h =>
      exact ⟨_, rfl, outer (s.outer_expire h fun r => (s.outer_requeue _ _).trans (State.outer_handOut _ _))⟩
    case graceExpiry h => exact ⟨_, rfl, outer (s.outer_expire h fun _ => s.outer_leaveTable h)⟩
    case lookupFind tag l st =>
      exact ⟨_, rfl, (s.quiet_query tag (by rw [State.applyFind_state]; exact .refl s)).keeps held⟩
    case peek tag h e => exact ⟨_, rfl, (s.quiet_query tag (s.outer_applyNamed h e fun _ _ => .refl s)).keeps held⟩
    case hold tag h e => exact ⟨_, rfl, (s.quiet_query tag (s.outer_applyNamed h e (s.outer_holdRecord e))).keeps held⟩
    case release tag h e => exact ⟨_, rfl, (s.quiet_query tag (s.outer_applyNamed h e (s.outer_releaseRecord e))).keeps held⟩
    case badQuery tag => exact ⟨_, rfl, (s.quiet_query tag (.refl s)).keeps held⟩
    case queryDiscard => exact ⟨_, rfl, held.ite (s.quiet_discardQuery.keeps held)⟩
    case answerSent => exact ⟨_, rfl, held.ite held⟩
    case idleOfTwoByteTimes rx =>
      refine ⟨_, rfl, ?_⟩
      split
      · exact held
      · cases rx <;> exact held
    all_goals cases host
  · obtain ⟨⟨code, args⟩, e⟩ := Option.ne_none_iff_exists'.mp host
    exact ⟨_, exec_hostCommand e s, held.issue code args⟩

end

/-- Settles O53: a step is one row or the time base moves, and every row keeps the port with its sweep. -/
theorem goHoldsWhileASweepRuns : Obligations.GoHoldsWhileASweepRuns := by
  intro s t port sweep e
  have row {c : Instr} {s' : State} (held : s'.PortHeld) (e : exec c s' = .next t) : t.PortHeld := by
    obtain ⟨u, next, kept⟩ := exec_portHeld c held
    cases e.symm.trans next
    exact kept
  unfold step at e
  split at e
  next c rest _ => exact row (s' := { s with pending := rest }) ⟨port, sweep⟩ e
  split at e
  · exact row ⟨port, sweep⟩ e
  · cases e
    exact ⟨port, sweep⟩

end Sys2Proof.Machine
end


section
/-! The staging profile: its fields one by one, and its commit (R32 to R37). -/

namespace Sys2Proof.Machine

/-! ### Fields are read back (Table 3-1) -/

theorem wordOf_toNat (w : Word) : wordOf w.toNat = w := by simp [wordOf]

theorem Word.below_readBack {n : Nat} {w : Word} {k : Fin n} (e : Word.below n w = some k) : wordOf k.val = w := by
  rw [Word.below_some (Word.below_lt e)] at e
  rw [← Option.some.inj e, wordOf_toNat]

theorem bit_readBack (x : Fin 2) : (if decide (x.val = 1) = true then (1 : Word) else 0) = wordOf x.val := by
  revert x
  decide

theorem Word.step?_readBack {w : Word} {k : Step} (e : Word.step? w = some k) : wordOf (Step.number k) = w := by
  unfold Word.step? at e
  split at e
  next range =>
    cases e
    rw [Step.number, Nat.sub_add_cancel range.1, wordOf_toNat]
  · cases e

theorem Word.inRange?_readBack {lo hi n : Nat} {w : Word} (e : Word.inRange? lo hi w = some n) : wordOf n = w := by
  unfold Word.inRange? at e
  split at e
  · cases e
    exact wordOf_toNat w
  · cases e

theorem Word.kinds?_readBack {w : Word} {k : BitVec 5} (e : Word.kinds? w = some k) : k.setWidth 16 = w := by
  unfold Word.kinds? at e
  split at e
  · cases e
    refine BitVec.eq_of_toNat_eq ?_
    simp only [BitVec.toNat_setWidth]
    omega
  · cases e

theorem Grace.ofWord?_readBack {w : Word} {g : Grace} (e : Grace.ofWord? w = some g) : g.code = w := by
  unfold Grace.ofWord? at e
  split at e
  · cases e
    exact wordOf_toNat w
  split at e
  next all =>
    cases e
    exact all.symm
  · cases e

/-- A staged field reads back as the word it was written from (R32, R34). -/
theorem Profile.field_withField? {p q : Profile} {n : Fin 14} {w : Word} (written : p.withField? n w = some q) :
    q.field n = w := by
  unfold Profile.withField? at written
  split at written
  case h_1 =>
    split at written
    next low =>
      cases written
      refine BitVec.eq_of_toNat_eq ?_
      simp only [Profile.field, BitVec.toNat_setWidth]
      omega
    · cases written
  all_goals obtain ⟨x, read, rfl⟩ := Option.map_eq_some_iff.1 written
  case h_2 | h_3 => exact Word.step?_readBack read
  case h_4 => exact Word.below_readBack read
  case h_5 => exact (bit_readBack x).trans (Word.below_readBack read)
  case h_13 => exact Grace.ofWord?_readBack read
  case h_14 => exact Word.kinds?_readBack read
  all_goals exact Word.inRange?_readBack read

/-- The other fields stay as they are (R32). -/
theorem Profile.field_withField?_other {p q : Profile} {n m : Fin 14} {w : Word} (written : p.withField? n w = some q)
    (other : m ≠ n) : q.field m = p.field m := by
  unfold Profile.withField? at written
  split at written
  case h_1 =>
    split at written
    · cases written
      unfold Profile.field
      split
      case h_1 => exact absurd rfl other
      all_goals rfl
    · cases written
  all_goals
    obtain ⟨x, -, rfl⟩ := Option.map_eq_some_iff.1 written
    unfold Profile.field
    split
    all_goals first | rfl | exact absurd rfl other

theorem Word.step?_of_range {w : Word} (range : 1 ≤ w.toNat ∧ w.toNat ≤ 12) : (Word.step? w).isSome = true := by
  rw [Word.step?, dif_pos range]
  rfl

theorem Word.inRange?_of_range {lo hi : Nat} {w : Word} (range : lo ≤ w.toNat ∧ w.toNat ≤ hi) :
    (Word.inRange? lo hi w).isSome = true := by
  rw [Word.inRange?, if_pos range]
  rfl

theorem Grace.ofWord?_of_range {w : Word} (range : w.toNat ≤ 6000 ∨ w.toNat = 0xFFFF) : (Grace.ofWord? w).isSome = true := by
  unfold Grace.ofWord?
  split
  · rfl
  next high =>
    rw [if_pos (BitVec.eq_of_toNat_eq (range.resolve_left high))]
    rfl

/-- Every value in the range of its field is taken (R32). -/
theorem Profile.withField?_of_range (p : Profile) {n : Fin 14} {w : Word}
    (range : hostArgsInRange (.profileStage (wordOf n.val) w) = true) : (p.withField? n w).isSome = true := by
  have number : (wordOf n.val).toNat = n.val := toNat_wordOf (by omega)
  unfold hostArgsInRange at range
  dsimp only at range
  rw [number] at range
  unfold Profile.withField?
  split
  case h_1 =>
    rw [if_pos (of_decide_eq_true range)]
    rfl
  all_goals
    have range := of_decide_eq_true range
    rw [Option.isSome_map]
  case h_2 | h_3 => exact Word.step?_of_range range
  case h_4 | h_5 => rw [Word.below_some (by omega)]; rfl
  case h_8 | h_11 => exact Word.inRange?_of_range ⟨Nat.zero_le _, range⟩
  case h_13 => exact Grace.ofWord?_of_range range
  case h_14 => rw [Word.kinds?, if_pos range]; rfl
  all_goals exact Word.inRange?_of_range range

@[simp] theorem Word.below_field (n : Fin 14) : Word.below 14 (wordOf n.val) = some n := Word.below_wordOf n (by decide)

/-! ### The commands of the staging profile (R32 to R34) -/

/-- A host command that changes the staging profile alone answers that change. -/
theorem exec_stages {c : Instr} {code : Word} {args res : List Word} {status : Status} {s : State} {p : Profile}
    (host : hostCommand? c = some (code, args)) (ready : s.ready)
    (e : commandOf code (s.started code args) = .done { s.started code args with staging := p } status res) :
    exec c s = .next (({ s with staging := p } : State).answered code args status res) :=
  exec_answers_from (u := { s with staging := p }) host ready (State.Outer.refl _) e

theorem State.validSet_bit (s : State) (n : Fin 16) : s.validSet.getLsbD n = s.profiles[n].isSome := by
  simp [State.validSet, State.isValid]

@[simp] theorem State.started_validSet (s : State) (code : Word) (args : List Word) :
    (s.started code args).validSet = s.validSet := rfl

/-- Settles O25: one field is written and read back, a VALID profile is copied, and a field is read with the set of VALID
profiles. -/
theorem stagingCommands : Obligations.StagingCommands := by
  refine ⟨fun s n w ready range => ?_, fun s n ready => ⟨fun p valid => ?_, fun invalid => ?_⟩, fun s f ready => ?_⟩
  · obtain ⟨p, written⟩ := Option.isSome_iff_exists.1 (s.staging.withField?_of_range range)
    refine ⟨p, exec_stages rfl ready ?_, Profile.field_withField? written, fun m => Profile.field_withField?_other written⟩
    show cmdProfileStage _ = _
    simp [cmdProfileStage, written]
  · refine exec_stages rfl ready ?_
    show cmdProfileLoad _ = _
    simp [cmdProfileLoad, valid, -Fin.getElem_fin]
  · refine exec_unchanged rfl ready ?_
    show cmdProfileLoad _ = _
    simp [cmdProfileLoad, invalid, -Fin.getElem_fin]
  · have number (n : Fin 16) : Word.below 17 (wordOf n.val) = some n.castSucc := Word.below_wordOf n.castSucc (by decide)
    refine ⟨s.validSet, s.validSet_bit, fun n p valid => ?_, fun n invalid => ?_, ?_⟩
    · refine exec_unchanged rfl ready ?_
      show cmdProfileRead _ = _
      have valid : s.profiles[n.val] = some p := valid
      simp [cmdProfileRead, number, valid]
    · refine exec_unchanged rfl ready ?_
      show cmdProfileRead _ = _
      have invalid : s.profiles[n.val] = none := invalid
      simp [cmdProfileRead, number, invalid]
    · refine exec_unchanged rfl ready ?_
      show cmdProfileRead _ = _
      simp [cmdProfileRead, show Word.below 17 16#16 = some 16 by decide]

/-! ### Validation (R35) -/

section
variable {p : Profile}

theorem Profile.failedCheck_empty (empty : ∀ k, ¬StepSet.has p.offerMask k = true) : p.failedCheck = some 1 := by
  unfold Profile.failedCheck
  rw [StepSet.highest, highestStep_none.2 fun k => Bool.eq_false_iff.2 (empty k)]

/-- The highest step of a mask that holds one. -/
theorem StepSet.highest_of_has {m : StepSet} {k : Step} (member : StepSet.has m k = true) :
    ∃ top, StepSet.highest m = some top ∧ StepSet.has m top = true ∧ k ≤ top := by
  cases e : StepSet.highest m with
  | none =>
    rw [highestStep_none.1 e k] at member
    cases member
  | some top =>
    obtain ⟨has, most⟩ := highestStep_some.1 e
    exact ⟨top, rfl, has, most k member⟩

theorem Profile.failedCheck_belowFloor (offers : ∃ k, StepSet.has p.offerMask k = true)
    (low : ∀ k, StepSet.has p.offerMask k = true → k < p.floor) : p.failedCheck = some 2 := by
  obtain ⟨k, member⟩ := offers
  obtain ⟨top, highest, has, -⟩ := StepSet.highest_of_has member
  unfold Profile.failedCheck
  rw [highest]
  exact if_pos (low top has)

/-- Past the first two checks FLOOR and CAP decide, since a held LADDER is 0 to 3. -/
theorem Profile.failedCheck_offers (offers : ∃ k, StepSet.has p.offerMask k = true ∧ p.floor ≤ k) :
    p.failedCheck = if p.cap < p.floor then some 3 else none := by
  obtain ⟨k, member, above⟩ := offers
  obtain ⟨top, highest, -, most⟩ := StepSet.highest_of_has member
  unfold Profile.failedCheck
  rw [highest]
  dsimp only
  rw [if_neg (not_lt.2 (above.trans most)), if_neg (show ¬3 < p.ladder.val by omega)]

end

/-! ### The commit (R36, R37) -/

/-- A commit that fails a check is refused with its number (R35). -/
theorem exec_profileCommit_refused {s : State} {n : Fin 16} {check : Nat} (ready : s.ready)
    (fails : s.staging.failedCheck = some check) :
    exec (.profileCommit (wordOf n.val)) s = .next (s.answered 0x12 [wordOf n.val] .badArg [wordOf check]) := by
  refine exec_unchanged rfl ready ?_
  show cmdProfileCommit _ = _
  simp [cmdProfileCommit, fails]

/-- A commit that passes leaves GO one, the copy made and its sweep begun (R36, R37, R159). -/
theorem exec_profileCommit_begins {s : State} {n : Fin 16} (ready : s.ready) (passes : s.staging.failedCheck = none) :
    exec (.profileCommit (wordOf n.val)) s = .next { s.started 0x12 [wordOf n.val] with
      profiles := s.profiles.set n (some s.staging), sweep := some (Sweep.first n) } := by
  have owner : cmdProfileCommit (s.started 0x12 [wordOf n.val]) = .running { s.started 0x12 [wordOf n.val] with
      profiles := s.profiles.set n (some s.staging), sweep := some (Sweep.first n) } := by
    simp [cmdProfileCommit, passes, Sweep.first]
  show Host.Outcome.next (s.issue 0x12 [wordOf n.val] cmdProfileCommit) = _
  rw [State.issue_ready ready, owner]

/-- Settles O26: the checks in their order, and the commit that passes them. -/
theorem profileCommitValidatesAndStarts : Obligations.ProfileCommitValidatesAndStarts := by
  intro s n ready
  refine ⟨fun empty => ?_, fun offers low => ?_, fun offers crossed => ?_, fun offers ordered => ?_⟩
  · exact exec_profileCommit_refused ready (Profile.failedCheck_empty empty)
  · exact exec_profileCommit_refused ready (Profile.failedCheck_belowFloor offers low)
  · exact exec_profileCommit_refused ready ((Profile.failedCheck_offers offers).trans (if_pos crossed))
  · refine ⟨_, exec_profileCommit_begins ready ((Profile.failedCheck_offers offers).trans (if_neg (not_lt.2 ordered))), rfl,
      fun m => ?_, rfl, rfl, rfl, fun i => ?_, rfl, rfl, fun i => ?_, rfl⟩
    · rw [State.profile_set]
      simp only [eq_comm]
    · simp [State.started, State.began]
    · show (s.started 0x12 [wordOf n.val]).arg i = _
      rw [State.started_arg]
      by_cases first : i = 0
      · subst first
        rfl
      · have past : [wordOf n.val].length ≤ i.val := Nat.one_le_iff_ne_zero.2 fun zero => first (Fin.ext zero)
        rw [if_neg first, List.getD_eq_default _ _ past]

end Sys2Proof.Machine
end


section
/-! REBIND (R28, R38, R40, R42). -/

namespace Sys2Proof.Machine

@[simp] theorem State.rebindReact_withRest (s : State) (x : Rest) (h : Handle) (r : Record) :
    (s.withRest x).rebindReact h r = (s.rebindReact h r).withRest x := by
  unfold State.rebindReact
  cases r.state with
  | agreed | holdover =>
    simp only [State.profileOf_withRest, State.requeue_withRest]
    split <;> rfl
  | _ => rfl

/-- REBIND of a live record to a VALID profile answers the profile it had and the state it has now (R42). -/
theorem exec_rebind {s : State} {h : Handle} {e : Epoch} {p : Fin 16} {r : Record} (ready : s.ready) (valid : s.isValid p = true)
    (named : s.names h e r) (live : r.state ≠ .retiring) :
    let t := ((s.putRecord h { r with profile := p }).rebindReact h { r with profile := p }).handOut r.line
    exec (.rebind (handleWord h) (e.setWidth 16) (wordOf p.val)) s =
      .next (t.answered 0x04 [handleWord h, e.setWidth 16, wordOf p.val] .ok [wordOf r.profile.val, t.stateWord h]) := by
  intro t
  refine exec_answers rfl ready
    (((s.outer_putRecord _ _).trans (State.outer_rebindReact _ _ _)).trans (State.outer_handOut _ _)) ?_
  show cmdRebind _ = _
  simp [cmdRebind, valid, State.named?_eq_some named, live, t]

section
variable {s : State} {h : Handle} {r : Record}

/-- An agreement is tested against the profile it is now bound to (R38, R42). -/
theorem State.rebindReact_agreement (state : r.state = .agreed ∨ r.state = .holdover) : s.rebindReact h r =
    if r.agreed.any (nonCompliant (s.profileOf r.profile)) then s.requeue h .profile else s := by
  unfold State.rebindReact
  rcases state with e | e <;> rw [e]

theorem State.rebindReact_negotiating (state : r.state = .negotiating) : s.rebindReact h r =
    s.putRecord h { r with attempt := r.attempt.map fun a : Attempt => { a with rerun := true } } := by
  unfold State.rebindReact
  rw [state]

theorem State.rebindReact_idle (agreed : r.state ≠ .agreed) (holdover : r.state ≠ .holdover) (negotiating : r.state ≠ .negotiating) :
    s.rebindReact h r = s := by
  unfold State.rebindReact
  cases e : r.state with
  | agreed => exact absurd e agreed
  | holdover => exact absurd e holdover
  | negotiating => exact absurd e negotiating
  | _ => rfl

end

theorem State.stateWord_eq (s : State) (h : Handle) :
    s.stateWord h = (s.record? h).elim (0 : Word) fun x => x.state.code.setWidth 16 := by
  unfold State.stateWord
  cases s.record? h <;> rfl

/-- Settles O19: the profile is tested before the pair, and the record by its state. -/
theorem rebindBindsAndTests : Obligations.RebindBindsAndTests := by
  refine ⟨fun s h e p r ready valid named live => ?_, fun s h e p ready invalid => ?_⟩
  · intro bound u t shown
    have same : u = bound.rebindReact h { r with profile := p } := by
      have agreement := State.rebindReact_agreement (s := bound) (h := h) (r := { r with profile := p })
      have negotiating := State.rebindReact_negotiating (s := bound) (h := h) (r := { r with profile := p })
      have idle := State.rebindReact_idle (s := bound) (h := h) (r := { r with profile := p })
      generalize bound.rebindReact h { r with profile := p } = reacted at agreement negotiating idle ⊢
      cases state : r.state with
      | agreed => rw [agreement (.inl state)]; simp only [u, state]; rfl
      | holdover => rw [agreement (.inr state)]; simp only [u, state]; rfl
      | negotiating => rw [negotiating state, State.putRecord_putRecord]; simp only [u, state]
      | _ => rw [idle (by simp [state]) (by simp [state]) (by simp [state])]; simp only [u, state]
    have word : t.stateWord h = shown := t.stateWord_eq h
    have answer := exec_rebind ready valid named live
    rw [← same] at answer
    exact answer.trans (by rw [← word])
  · refine exec_unchanged rfl ready ?_
    show cmdRebind _ = _
    simp [cmdRebind, invalid]

end Sys2Proof.Machine
end


section
/-! The hand-out: when it does nothing, one turn of it, and the attempt it starts (R53, R83, R85, R87). -/

namespace Sys2Proof.Machine

/-! ### The offer (R53, R85) -/

theorem StepSet.has_stepsWhere (f : Step → Bool) (k : Step) : StepSet.has (stepsWhere f) k = f k := by
  simp [StepSet.has, stepsWhere]

theorem aboveOverride_eq_false {o : Option Step} {k : Step} : aboveOverride o k = false ↔ ∀ c ∈ o, k ≤ c := by
  cases o <;> simp [aboveOverride]

/-- A ceiling of none lies below every step (R53). -/
theorem aboveQuality_eq_false {q : Option Quality} {k : Step} :
    aboveQuality q k = false ↔ ∀ x ∈ q, ∃ c ∈ x.ceiling, k ≤ c := by
  cases q with
  | none => simp [aboveQuality]
  | some q => cases ceiling : q.ceiling <;> simp [aboveQuality, ceiling, stepCode, Step.number]

theorem has_computeOffer {p : Profile} {override : Option Step} {ceiling : Step} {q : Option Quality} {k : Step} :
    StepSet.has (computeOffer p override ceiling q) k = true ↔
      StepSet.has p.offerMask k = true ∧ p.floor ≤ k ∧ k ≤ p.cap ∧ k ≤ ceiling ∧
      (∀ o ∈ override, k ≤ o) ∧ ∀ x ∈ q, ∃ c ∈ x.ceiling, k ≤ c := by
  rw [computeOffer, StepSet.has_stepsWhere, ← aboveOverride_eq_false, ← aboveQuality_eq_false]
  simp only [Bool.and_eq_true, decide_eq_true_eq, Bool.not_eq_true', and_assoc, and_left_comm]

/-! ### The turns of the hand-out (R83) -/

section
variable {s : State} {l : LineId} {h : Handle}

/-- The grant is held, the line is not UP, or nobody waits (R83). -/
abbrev State.HandsNothing (s : State) (l : LineId) : Prop :=
  s.arbiters[l].grant ≠ none ∨ s.lineIsUp l = false ∨ (s.arbiters[l].urgent = [] ∧ s.arbiters[l].normal = [])

theorem Arbiter.next?_eq_none {a : Arbiter} : a.next? = none ↔ a.urgent = [] ∧ a.normal = [] := by
  unfold Arbiter.next?
  cases a.urgent <;> simp

/-- The head of the urgent class is next, else of the normal class, and the others keep their places (R83). -/
theorem Arbiter.next_of_queue {a : Arbiter} {urgent normal : List Handle}
    (queue : (a.urgent = h :: urgent ∧ a.normal = normal) ∨ (a.urgent = [] ∧ urgent = [] ∧ a.normal = h :: normal)) :
    a.next? = some h ∧ a.giveGrant = { grant := some h, urgent := urgent, normal := normal } := by
  obtain ⟨hu, hn⟩ | ⟨hu, hr, hn⟩ := queue <;> simp [Arbiter.next?, Arbiter.giveGrant, *]

theorem State.handsNothing_or_next (s : State) (l : LineId) : s.HandsNothing l ∨
    s.arbiters[l].grant = none ∧ s.lineIsUp l = true ∧ ∃ h, s.arbiters[l].next? = some h := by
  by_cases free : s.arbiters[l].grant = none
  · cases up : s.lineIsUp l with
    | false => exact .inl (.inr (.inl up))
    | true =>
      cases next : s.arbiters[l].next? with
      | none => exact .inl (.inr (.inr (Arbiter.next?_eq_none.1 next)))
      | some h => exact .inr ⟨free, rfl, h, rfl⟩
  · exact .inl (.inl free)

theorem handOutLoop_of_handsNothing (n : Nat) (nothing : s.HandsNothing l) : handOutLoop n l s = s := by
  cases n with
  | zero => rfl
  | succ n =>
    rw [handOutLoop]
    obtain held | down | empty := nothing
    · rw [Option.isSome_iff_ne_none.2 held, Bool.true_or, if_pos rfl]
    · rw [if_pos (by simp [down])]
    · rw [Arbiter.next?_eq_none.2 empty]
      exact ite_self s

theorem handOutLoop_succ (n : Nat) (free : s.arbiters[l].grant = none) (up : s.lineIsUp l = true)
    (next : s.arbiters[l].next? = some h) :
    handOutLoop (n + 1) l s = handOutLoop n l ((s.modArbiter l Arbiter.giveGrant).startAttempt l h) := by
  rw [handOutLoop, free, up, if_neg (by decide), next]

/-- Without a turn left to take nobody waits. -/
theorem State.handsNothing_of_queueTurns (none : s.queueTurns l ≤ 0) : s.HandsNothing l := by
  refine .inr (.inr (List.append_eq_nil_iff.1 ?_))
  cases queue : s.arbiters[l].urgent ++ s.arbiters[l].normal with
  | nil => rfl
  | cons x rest =>
    have := s.one_le_turns x
    simp only [State.queueTurns, queue, List.map_cons, List.sum_cons] at none
    omega

/-- Past the turns the queue can take, more of them change nothing (R83). -/
theorem handOutLoop_enough {n m : Nat} (hn : s.queueTurns l ≤ n) (hm : s.queueTurns l ≤ m) :
    handOutLoop n l s = handOutLoop m l s := by
  induction n generalizing s m with
  | zero =>
    have nothing := State.handsNothing_of_queueTurns hn
    rw [handOutLoop_of_handsNothing _ nothing, handOutLoop_of_handsNothing _ nothing]
  | succ n ih =>
    obtain nothing | ⟨free, up, h, next⟩ := s.handsNothing_or_next l
    · rw [handOutLoop_of_handsNothing _ nothing, handOutLoop_of_handsNothing _ nothing]
    · cases m with
      | zero =>
        have nothing := State.handsNothing_of_queueTurns hm
        rw [handOutLoop_of_handsNothing _ nothing, handOutLoop_of_handsNothing _ nothing]
      | succ m =>
        rw [handOutLoop_succ n free up next, handOutLoop_succ m free up next]
        rcases State.turn_ends free next with held | fewer
        · rw [handOutLoop_of_handsNothing _ (.inl held), handOutLoop_of_handsNothing _ (.inl held)]
        · exact ih (by omega) (by omega)

theorem State.handOut_of_handsNothing (nothing : s.HandsNothing l) : s.handOut l = s :=
  handOutLoop_of_handsNothing _ nothing

/-- The hand-out is the turn of the record next in turn, and the hand-out after it (R83). -/
theorem State.handOut_turn (free : s.arbiters[l].grant = none) (up : s.lineIsUp l = true) (next : s.arbiters[l].next? = some h) :
    s.handOut l = ((s.modArbiter l Arbiter.giveGrant).startAttempt l h).handOut l := by
  have turn : s.handOut l = handOutLoop (2 * (s.arbiters[l].urgent.length + s.arbiters[l].normal.length) - 1) l
      ((s.modArbiter l Arbiter.giveGrant).startAttempt l h) := by
    rw [← handOutLoop_succ _ free up next, Nat.sub_add_cancel]
    · rfl
    · have queue := congrArg List.length (Arbiter.giveGrant_queue next).2
      simp only [List.length_append, List.length_cons] at queue
      omega
  rw [turn]
  rcases State.turn_ends free next with held | fewer
  · rw [handOutLoop_of_handsNothing _ (.inl held), State.handOut_of_handsNothing (.inl held)]
  · exact handOutLoop_enough (by have := s.queueTurns_le l; omega) (State.queueTurns_le _ l)

end

/-! ### The start of an attempt (R87) -/

section
variable {s : State} {l : LineId} {h : Handle} {r : Record}

theorem State.startAttempt_offers (hr : s.record? h = some r)
    (offers : computeOffer (s.profileOf r.profile) r.capOverride s.lines[r.line].ceiling r.quality ≠ 0) :
    s.startAttempt l h = (s.putRecord h { r with
        state := .negotiating
        attempt := some { phase := .offered
                          offer := computeOffer (s.profileOf r.profile) r.capOverride s.lines[r.line].ceiling r.quality
                          rerun := false }
        changes := recorded r.changes kindState (s.profileOf r.profile)
        timer := some { start := s.now, duration := 10 * (s.profileOf r.profile).negTimeout } }).sendDown r.line
      (.negotiate r.station (computeOffer (s.profileOf r.profile) r.capOverride s.lines[r.line].ceiling r.quality)) := by
  unfold State.startAttempt
  rw [hr]
  exact if_neg offers

theorem State.startAttempt_empty (hr : s.record? h = some r)
    (empty : computeOffer (s.profileOf r.profile) r.capOverride s.lines[r.line].ceiling r.quality = 0) :
    s.startAttempt l h = (s.putRecord h { r with
      state := .negotiating, changes := recorded r.changes kindState (s.profileOf r.profile) }).failAttempt h .noCommon := by
  unfold State.startAttempt
  rw [hr]
  exact if_pos empty

end

/-! ### A failed attempt leaves the lines as they are (R97) -/

section
variable (s : State) (h : Handle)

theorem State.lines_requeue (c : Cause) : (s.requeue h c).lines = s.lines := by
  unfold State.requeue
  split
  · rfl
  · dsimp only
    split <;> rfl

theorem State.lines_failAttempt {w : FailReason} (carrier : w ≠ .noCarrier) : (s.failAttempt h w).lines = s.lines := by
  cases hr : s.record? h with
  | none =>
    unfold State.failAttempt
    rw [hr]
  | some r =>
    obtain ⟨u, -, ⟨-, -, e⟩ | ⟨c, -, -, -, e⟩⟩ := State.failAttempt_cases hr w fun lost => absurd lost carrier
    · rw [e]; rfl
    · rw [e, State.lines_requeue]; rfl

end

/-- Settles O44: the offer step by step, the hand-out that does nothing, and its one turn that starts the head's attempt. -/
theorem grantStartsAnAttempt : Obligations.GrantStartsAnAttempt := by
  refine ⟨fun p override ceiling q k => has_computeOffer, fun s l => ⟨State.handOut_of_handsNothing, ?_⟩⟩
  intro h urgent normal r free up queue hr line p offer
  obtain ⟨next, given⟩ := Arbiter.next_of_queue queue
  have turn := State.handOut_turn free up next
  rw [show s.modArbiter l Arbiter.giveGrant = s.modArbiter l fun _ => { grant := some h, urgent := urgent, normal := normal } by
    unfold State.modArbiter; rw [given]] at turn
  subst line
  have hr' : (s.modArbiter r.line fun _ => { grant := some h, urgent := urgent, normal := normal }).record? h = some r := hr
  refine ⟨fun offers => ?_, fun empty => ?_⟩
  · rw [turn, State.startAttempt_offers hr' offers]
    refine State.handOut_of_handsNothing (.inl ?_)
    rw [State.sendDown_arbiters, State.putRecord_arbiters, State.arbiter_modArbiter_same]
    exact nofun
  · rw [State.startAttempt_empty hr' empty] at turn
    exact ⟨State.lines_failAttempt _ h nofun, turn⟩

end Sys2Proof.Machine
end


section
/-! The ladder commands (R45, R46). -/

namespace Sys2Proof.Machine

/-! ### The tests of Table 4-2 -/

/-- A value of the new rung against the rung below it; S1 has none. -/
def Ladder.AtLeastBelow (l : Ladder) (k : Step) (f : Rung → BitVec 8) (v : BitVec 8) : Prop :=
  ∀ j : Step, j.val + 1 = k.val → (f l[j]).toNat ≤ v.toNat

/-- A value of the new rung against the rung above it; S12 has none. -/
def Ladder.AtMostAbove (l : Ladder) (k : Step) (f : Rung → BitVec 8) (v : BitVec 8) : Prop :=
  ∀ j : Step, k.val + 1 = j.val → v.toNat ≤ (f l[j]).toNat

/-- The tests of Table 4-2 in their order, numbered from 0. -/
def Ladder.Passes (l : Ladder) (k : Step) (g : Rung) : Fin 5 → Prop
  | 0 => g.fall.toNat ≤ g.rise.toNat
  | 1 => l.AtLeastBelow k Rung.rise g.rise
  | 2 => l.AtMostAbove k Rung.rise g.rise
  | 3 => l.AtLeastBelow k Rung.fall g.fall
  | 4 => l.AtMostAbove k Rung.fall g.fall

section
variable {l : Ladder} {k : Step} {g : Rung}

theorem Ladder.not_atLeastBelow_iff {f : Rung → BitVec 8} {v : BitVec 8} : ¬l.AtLeastBelow k f v ↔
    (!if h : 0 < k.val then decide ((f (l[k.val - 1]'(by omega))).toNat ≤ v.toNat) else true) = true := by
  rw [Bool.not_eq_true', ← Bool.not_eq_true, not_iff_not, Ladder.AtLeastBelow]
  split
  next positive =>
    rw [decide_eq_true_eq]
    refine ⟨fun below => below ⟨k.val - 1, by omega⟩ (Nat.sub_add_cancel positive), fun below j next => ?_⟩
    have at_j : k.val - 1 = j.val := by omega
    simp only [at_j] at below
    exact below
  next lowest => exact ⟨fun _ => rfl, fun _ j next => by omega⟩

theorem Ladder.not_atMostAbove_iff {f : Rung → BitVec 8} {v : BitVec 8} : ¬l.AtMostAbove k f v ↔
    (!if h : k.val + 1 < 12 then decide (v.toNat ≤ (f l[k.val + 1]).toNat) else true) = true := by
  rw [Bool.not_eq_true', ← Bool.not_eq_true, not_iff_not, Ladder.AtMostAbove]
  split
  next more =>
    rw [decide_eq_true_eq]
    refine ⟨fun above => above ⟨k.val + 1, more⟩ rfl, fun above j next => ?_⟩
    simp only [next] at above
    exact above
  next highest => exact ⟨fun _ => rfl, fun _ j next => by omega⟩

/-- What holds below a test and at it holds below the next one. -/
theorem forall_lt_next {P : Fin 5 → Prop} {i n : Fin 5} (next : n.val = i.val + 1) (before : ∀ j < i, P j) (here : P i) :
    ∀ j < n, P j := by
  intro j lt
  rcases lt_or_eq_of_le (show j ≤ i by omega) with lower | rfl
  · exact before j lower
  · exact here

/-- Of five tests taken in their order, the first that fails gives the number. -/
theorem firstFailed_cases {P : Fin 5 → Prop} {c0 c1 c2 c3 c4 : Prop} [Decidable c0] [Decidable c1] [Decidable c2] [Decidable c3]
    [Decidable c4] (h0 : ¬P 0 ↔ c0) (h1 : ¬P 1 ↔ c1) (h2 : ¬P 2 ↔ c2) (h3 : ¬P 3 ↔ c3) (h4 : ¬P 4 ↔ c4) :
    let number := if c0 then some 1 else if c1 then some 2 else if c2 then some 3 else if c3 then some 4 else
      if c4 then some 5 else none
    (number = none ∧ ∀ i, P i) ∨ ∃ i : Fin 5, number = some (i.val + 1) ∧ (∀ j < i, P j) ∧ ¬P i := by
  have passed0 : ∀ j < (0 : Fin 5), P j := fun j lt => absurd lt (Fin.not_lt_zero j)
  split
  next fails => exact .inr ⟨0, rfl, passed0, h0.2 fails⟩
  next holds =>
  have passed1 : ∀ j < (1 : Fin 5), P j := forall_lt_next rfl passed0 (not_not.1 (mt h0.1 holds))
  split
  next fails => exact .inr ⟨1, rfl, passed1, h1.2 fails⟩
  next holds =>
  have passed2 : ∀ j < (2 : Fin 5), P j := forall_lt_next rfl passed1 (not_not.1 (mt h1.1 holds))
  split
  next fails => exact .inr ⟨2, rfl, passed2, h2.2 fails⟩
  next holds =>
  have passed3 : ∀ j < (3 : Fin 5), P j := forall_lt_next rfl passed2 (not_not.1 (mt h2.1 holds))
  split
  next fails => exact .inr ⟨3, rfl, passed3, h3.2 fails⟩
  next holds =>
  have passed4 : ∀ j < (4 : Fin 5), P j := forall_lt_next rfl passed3 (not_not.1 (mt h3.1 holds))
  split
  next fails => exact .inr ⟨4, rfl, passed4, h4.2 fails⟩
  next holds =>
  refine .inl ⟨rfl, fun i => ?_⟩
  rcases lt_or_eq_of_le (Fin.le_last i) with lower | rfl
  · exact passed4 i lower
  · exact not_not.1 (mt h4.1 holds)

/-- The tests are taken in their order, and the first that fails is named (R45). -/
theorem Ladder.failedTest_cases (l : Ladder) (k : Step) (g : Rung) :
    (l.failedTest k g = none ∧ ∀ i, l.Passes k g i) ∨
    ∃ i : Fin 5, l.failedTest k g = some (i.val + 1) ∧ (∀ j < i, l.Passes k g j) ∧ ¬l.Passes k g i :=
  firstFailed_cases (P := l.Passes k g) not_le Ladder.not_atLeastBelow_iff Ladder.not_atMostAbove_iff
    Ladder.not_atLeastBelow_iff Ladder.not_atMostAbove_iff

/-- The first test that fails is the one named (R45). -/
theorem Ladder.failedTest_some {i : Fin 5} (before : ∀ j < i, l.Passes k g j) (fails : ¬l.Passes k g i) :
    l.failedTest k g = some (i.val + 1) := by
  obtain ⟨-, all⟩ | ⟨n, e, passed, failed⟩ := l.failedTest_cases k g
  · exact absurd (all i) fails
  · rcases lt_trichotomy n i with lt | rfl | gt
    · exact absurd (before n lt) failed
    · exact e
    · exact absurd (passed i gt) fails

theorem Ladder.failedTest_of_passes (all : ∀ i, l.Passes k g i) : l.failedTest k g = none := by
  obtain ⟨e, -⟩ | ⟨n, -, -, failed⟩ := l.failedTest_cases k g
  · exact e
  · exact absurd (all n) failed

end

/-! ### LADDER_WRITE (R45) -/

@[simp] theorem Word.below_ladder (l : Fin 4) : Word.below 4 (wordOf l.val) = some l := Word.below_wordOf l (by decide)

section
variable {s : State} {l : Fin 4} {k : Step} {rise fall : BitVec 8}

theorem exec_ladderWrite_refused {t : Nat} (ready : s.ready)
    (fails : Ladder.failedTest s.ladders[l] k { rise := rise, fall := fall } = some t) :
    exec (.ladderWrite (wordOf l.val) (stepWord (some k)) (rise.setWidth 16) (fall.setWidth 16)) s =
      .next (s.answered 0x18 [wordOf l.val, stepWord (some k), rise.setWidth 16, fall.setWidth 16] .badArg [wordOf t]) := by
  refine exec_unchanged rfl ready ?_
  show cmdLadderWrite _ = _
  simp [cmdLadderWrite, Word.byte_setWidth, fails, -Fin.getElem_fin]

theorem exec_ladderWrite_taken (ready : s.ready)
    (passes : Ladder.failedTest s.ladders[l] k { rise := rise, fall := fall } = none) :
    exec (.ladderWrite (wordOf l.val) (stepWord (some k)) (rise.setWidth 16) (fall.setWidth 16)) s =
      .next (({ s with ladders := s.ladders.set l (s.ladders[l].set k { rise := rise, fall := fall }) } : State).answered 0x18
        [wordOf l.val, stepWord (some k), rise.setWidth 16, fall.setWidth 16] .ok []) := by
  refine exec_answers_from (u := { s with ladders := s.ladders.set l (s.ladders[l].set k { rise := rise, fall := fall }) })
    rfl ready (State.Outer.refl _) ?_
  show cmdLadderWrite _ = _
  simp [cmdLadderWrite, Word.byte_setWidth, passes, -Fin.getElem_fin]
  rfl

end

/-! ### LADDER_READ (R46) -/

theorem State.ladderUsers_bit (s : State) (l : Fin 4) (n : Fin 16) :
    (s.ladderUsers l).getLsbD n = true ↔ ∃ p ∈ s.profiles[n], p.ladder = l := by
  simp [State.ladderUsers, Option.any_eq_true]

/-- Settles O29: the tests in their order, the one rung written, and the rung read with its users. -/
theorem ladderCommands : Obligations.LadderCommands := by
  refine ⟨fun s l k rise fall ready => ?_, fun s l k ready => ?_⟩
  · intro c args below above test
    have tests : ∀ i, test i = Ladder.Passes s.ladders[l] k { rise := rise, fall := fall } i := by
      intro i
      fin_cases i <;> rfl
    simp only [tests]
    refine ⟨fun i before fails => ?_, fun all => ?_⟩
    · exact exec_ladderWrite_refused ready (Ladder.failedTest_some before fails)
    · refine ⟨_, exec_ladderWrite_taken ready (Ladder.failedTest_of_passes all), fun m j => ?_⟩
      rw [State.ladder_set]
      by_cases same : l = m
      · subst same
        rw [if_pos rfl, Ladder.rung_set]
        simp only [true_and, eq_comm]
      · rw [if_neg same, if_neg fun h => same h.1.symm]
  · refine ⟨s.ladderUsers l, s.ladderUsers_bit l, exec_unchanged rfl ready ?_⟩
    show cmdLadderRead _ = _
    simp [cmdLadderRead]
    rfl

end Sys2Proof.Machine
end


section
/-! Quality samples: what a ladder answers a value, and what a sample makes of the ceiling and the counts (R49 to R52). -/

namespace Sys2Proof.Machine

/-! ### What a ladder answers -/

/-- The highest step whose threshold a value reaches. -/
theorem highestStep_reached {f : Step → Nat} {n : Nat} {k : Step} :
    highestStep (fun j => decide (f j ≤ n)) = some k ↔ f k ≤ n ∧ ∀ j : Step, k < j → n < f j := by
  rw [highestStep_some, decide_eq_true_eq]
  refine and_congr_right fun _ => forall_congr' fun j => ?_
  rw [decide_eq_true_eq, ← not_imp_not, not_le, not_le]

theorem highestStep_unreached {f : Step → Nat} {n : Nat} :
    highestStep (fun j => decide (f j ≤ n)) = none ↔ ∀ j : Step, n < f j := by
  simp only [highestStep_none, decide_eq_false_iff_not, not_le]

section
variable {l : Ladder} {v : BitVec 8} {c : Option Step}

/-- The rung above a ceiling carries the number of the ceiling as its index (R50). -/
theorem stepAbove_eq_some {k : Step} : stepAbove c = some k ↔ stepCode c = k.val := by
  cases c with
  | none => simp [stepAbove, stepCode, Fin.ext_iff]
  | some j =>
    show (if h : j.val + 1 < 12 then some (⟨j.val + 1, h⟩ : Step) else none) = some k ↔ j.val + 1 = k.val
    split
    · simp [Fin.ext_iff]
    next highest => exact ⟨nofun, fun e => by omega⟩

theorem Ladder.rises_iff : l.rises c v = true ↔ ∃ k : Step, stepCode c = k.val ∧ l[k].rise.toNat ≤ v.toNat := by
  simp only [← stepAbove_eq_some]
  unfold Ladder.rises
  cases stepAbove c <;> simp

theorem Ladder.falls_iff : l.falls c v = true ↔ ∃ k ∈ c, v.toNat < l[k].fall.toNat := by
  unfold Ladder.falls
  cases c <;> simp

/-- A rise ends above the ceiling it was judged against (R50). -/
theorem Ladder.riseCeiling_ne (rises : l.rises c v = true) : l.riseCeiling v ≠ c := by
  obtain ⟨k, above, reached⟩ := Ladder.rises_iff.1 rises
  rintro rfl
  cases ceiling : l.riseCeiling v with
  | none => exact absurd (highestStep_unreached.1 ceiling k) (not_lt.2 reached)
  | some j =>
    rw [ceiling] at above
    have higher : j < k := Fin.lt_def.2 (by simp only [stepCode, Step.number] at above; omega)
    exact absurd ((highestStep_reached.1 ceiling).2 k higher) (not_lt.2 reached)

/-- A fall leaves the ceiling it was judged against (R51). -/
theorem Ladder.fallCeiling_ne (falls : l.falls c v = true) : l.fallCeiling v ≠ c := by
  obtain ⟨k, rfl, missed⟩ := Ladder.falls_iff.1 falls
  exact fun ceiling => absurd (highestStep_reached.1 ceiling).1 (not_le.2 missed)

end

/-! ### A later sample (R50 to R52) -/

section
variable {p : Profile} {l : Ladder} {v : BitVec 8} {q : Quality} {r : Record}

theorem Record.laterSample_level (up : l.rises q.ceiling v = false) (down : l.falls q.ceiling v = false) :
    Record.laterSample p l v q r = { r with quality := some { q with value := v }, riseCount := 0, fallCount := 0 } := by
  simp [Record.laterSample, up, down]

theorem Record.laterSample_rising (up : l.rises q.ceiling v = true) (down : l.falls q.ceiling v = false)
    (more : r.riseCount + 1 < p.riseSamples) : Record.laterSample p l v q r = { r with
      quality := some { q with value := v }, riseCount := r.riseCount + 1, fallCount := 0 } := by
  simp [Record.laterSample, up, down, not_le.2 more]

theorem Record.laterSample_risen (up : l.rises q.ceiling v = true) (down : l.falls q.ceiling v = false)
    (enough : p.riseSamples ≤ r.riseCount + 1) : Record.laterSample p l v q r = { r with
      quality := some { value := v, ceiling := l.riseCeiling v }, riseCount := 0, fallCount := 0
      changes := recorded r.changes kindCeiling p } := by
  simp [Record.laterSample, up, down, enough, Ladder.riseCeiling_ne up, Record.note_eq]

theorem Record.laterSample_falling (up : l.rises q.ceiling v = false) (down : l.falls q.ceiling v = true)
    (more : r.fallCount + 1 < p.fallSamples) : Record.laterSample p l v q r = { r with
      quality := some { q with value := v }, riseCount := 0, fallCount := r.fallCount + 1 } := by
  simp [Record.laterSample, up, down, not_le.2 more]

theorem Record.laterSample_fallen (up : l.rises q.ceiling v = false) (down : l.falls q.ceiling v = true)
    (enough : p.fallSamples ≤ r.fallCount + 1) : Record.laterSample p l v q r = { r with
      quality := some { value := v, ceiling := l.fallCeiling v }, riseCount := 0, fallCount := 0
      forwardBlocked := false, changes := recorded r.changes kindCeiling p } := by
  simp [Record.laterSample, up, down, enough, Ladder.fallCeiling_ne down, Record.note_eq]

theorem Record.sample_first (unmeasured : r.quality = none) : Record.sample p l v r = { r with
    quality := some { value := v, ceiling := l.riseCeiling v }, riseCount := 0, fallCount := 0
    changes := recorded r.changes kindCeiling p } := by
  simp only [Record.sample, unmeasured]
  rfl

theorem Record.sample_later (measured : r.quality = some q) : Record.sample p l v r = Record.laterSample p l v q r := by
  simp only [Record.sample, measured]

end

/-- Settles O41: the two searches of a ladder, and the sample by its answer and its count. -/
theorem samplesMoveTheCeiling : Obligations.SamplesMoveTheCeiling := by
  refine ⟨fun l v => ⟨fun _ => highestStep_reached, highestStep_unreached, fun _ => highestStep_reached, highestStep_unreached⟩,
    fun p l v r ok => ⟨Record.sample_first, fun q measured => ?_⟩⟩
  intro up down
  have single := ok.not_rises_and_falls q.ceiling v
  have one : ¬(up ∧ down) := by rwa [Ladder.rises_iff, Ladder.falls_iff] at single
  have rises (h : up) : l.rises q.ceiling v = true := Ladder.rises_iff.2 h
  have falls (h : down) : l.falls q.ceiling v = true := Ladder.falls_iff.2 h
  have level (h : ¬up) : l.rises q.ceiling v = false := Bool.eq_false_iff.2 (mt Ladder.rises_iff.1 h)
  have stays (h : ¬down) : l.falls q.ceiling v = false := Bool.eq_false_iff.2 (mt Ladder.falls_iff.1 h)
  rw [Record.sample_later measured]
  exact ⟨one,
    fun h more => Record.laterSample_rising (rises h) (stays fun d => one ⟨h, d⟩) more,
    fun h enough => Record.laterSample_risen (rises h) (stays fun d => one ⟨h, d⟩) enough,
    fun h more => Record.laterSample_falling (level fun u => one ⟨u, h⟩) (falls h) more,
    fun h enough => Record.laterSample_fallen (level fun u => one ⟨u, h⟩) (falls h) enough,
    fun u d => Record.laterSample_level (level u) (stays d)⟩

end Sys2Proof.Machine
end


section
/-! QUALITY at a record: the sample, and the reaction to a ceiling it changed (R48, R54 to R57). -/

namespace Sys2Proof.Machine

/-! ### Where the ceiling stands against the agreed step -/

/-- The ceiling lies below the agreed step (R54). -/
def Record.CeilingBelow (r : Record) : Prop := ∃ q ∈ r.quality, ∃ k ∈ r.agreed, stepCode q.ceiling < k.val + 1

/-- The ceiling lies above the agreed step (R55). -/
def Record.CeilingAbove (r : Record) : Prop := ∃ q ∈ r.quality, ∃ k ∈ r.agreed, k.val + 1 < stepCode q.ceiling

/-- The offer now holds a step above the agreed step that the remote mask holds (R55, condition 3). -/
def State.HoldsBetter (s : State) (r : Record) : Prop :=
  ∃ k ∈ r.agreed, ∃ j : Step, k < j ∧ (∃ m ∈ r.remoteMask, StepSet.has m j = true) ∧
    StepSet.has (computeOffer (s.profileOf r.profile) r.capOverride s.lines[r.line].ceiling r.quality) j = true

/-- The conditions of R55 for an AGREED record that a sample moves forward, but that the ceiling did not fall. -/
def State.Forward (s : State) (r : Record) : Prop :=
  r.CeilingAbove ∧ (s.profileOf r.profile).forwardEn = true ∧ r.forwardBlocked = false ∧ s.HoldsBetter r ∧
    s.lineIsUp r.line = true

/-- The ceiling fell between two quality fields. -/
def CeilingFell (before after : Option Quality) : Prop :=
  ∃ q0 ∈ before, ∃ q1 ∈ after, stepCode q1.ceiling < stepCode q0.ceiling

theorem stepCode_injective : Function.Injective stepCode := by
  intro a b same
  cases a with
  | none => cases b with
    | none => rfl
    | some k => exact absurd same (Nat.succ_ne_zero _).symm
  | some j => cases b with
    | none => exact absurd same (Nat.succ_ne_zero _)
    | some k => exact congrArg some (Fin.ext (Nat.succ.inj same))

/-- A changed ceiling rose, unless it fell. -/
theorem ceilingRose_iff {before after : Option Quality} (present : after.isSome = true)
    (changed : before.map Quality.ceiling ≠ after.map Quality.ceiling) :
    ceilingRose before after = true ↔ ¬CeilingFell before after := by
  obtain ⟨q1, rfl⟩ := Option.isSome_iff_exists.1 present
  cases before with
  | none => simp [ceilingRose, CeilingFell]
  | some q0 =>
    have differ : stepCode q0.ceiling ≠ stepCode q1.ceiling := fun same => changed (by simp [stepCode_injective same])
    simp [ceilingRose, CeilingFell, differ.le_iff_lt]

section
variable {s : State} {h : Handle} {r : Record} {before : Option Quality}

theorem State.canMoveForward_iff {k : Step} (agreed : r.agreed = some k) : s.canMoveForward r k = true ↔ s.HoldsBetter r := by
  simp only [State.canMoveForward, List.any_eq_true, List.mem_finRange, true_and, Bool.and_eq_true, decide_eq_true_eq,
    Option.any_eq_true]
  constructor
  · rintro ⟨j, ⟨offer, higher⟩, mask⟩
    exact ⟨k, agreed, j, higher, mask, offer⟩
  · rintro ⟨k', agreed', j, higher, mask, offer⟩
    cases agreed.symm.trans agreed'
    exact ⟨j, ⟨offer, higher⟩, mask⟩

/-! ### The reaction to a changed ceiling (R54 to R57) -/

theorem State.ceilingReact_agreed_below (state : r.state = .agreed) (below : r.CeilingBelow) :
    s.ceilingReact h before r = s.requeue h .qualityDown := by
  obtain ⟨q, quality, k, agreed, below⟩ := below
  simp only [Option.mem_def] at quality agreed
  simp only [State.ceilingReact, quality, agreed, state]
  exact if_pos below

theorem State.ceilingReact_agreed_forward (state : r.state = .agreed) (rose : ceilingRose before r.quality = true)
    (forward : s.Forward r) : s.ceilingReact h before r = s.requeue h .qualityUp := by
  obtain ⟨⟨q, quality, k, agreed, above⟩, enabled, free, better, up⟩ := forward
  simp only [Option.mem_def] at quality agreed
  rw [quality] at rose
  simp only [State.ceilingReact, quality, agreed, state]
  rw [if_neg (show ¬stepCode q.ceiling < Step.number k from not_lt.2 above.le),
    if_pos ⟨rose, above, enabled, by rw [free]; rfl, (State.canMoveForward_iff agreed).2 better, up⟩]

theorem State.ceilingReact_agreed_stays (state : r.state = .agreed) (notBelow : ¬r.CeilingBelow)
    (notForward : ¬(ceilingRose before r.quality = true ∧ s.Forward r)) : s.ceilingReact h before r = s := by
  cases quality : r.quality with
  | none => simp only [State.ceilingReact, quality]
  | some q =>
    cases agreed : r.agreed with
    | none => simp only [State.ceilingReact, quality, agreed]
    | some k =>
      simp only [State.ceilingReact, quality, agreed, state]
      rw [if_neg (show ¬stepCode q.ceiling < Step.number k from fun low => notBelow ⟨q, quality, k, agreed, low⟩), if_neg]
      rintro ⟨rose, above, enabled, free, better, up⟩
      refine notForward ⟨by rw [quality]; exact rose, ⟨q, quality, k, agreed, above⟩, enabled, ?_,
        (State.canMoveForward_iff agreed).1 better, up⟩
      simpa using free

theorem State.ceilingReact_waiting_below (state : r.state = .waiting) (below : r.CeilingBelow)
    (normal : h ∈ s.arbiters[r.line].normal) : s.ceilingReact h before r = s.classMove h .qualityDown := by
  obtain ⟨q, quality, k, agreed, below⟩ := below
  simp only [Option.mem_def] at quality agreed
  simp only [State.ceilingReact, quality, agreed, state]
  exact if_pos ⟨below, List.contains_iff_mem.2 normal⟩

theorem State.ceilingReact_waiting_stays (state : r.state = .waiting)
    (stays : ¬(r.CeilingBelow ∧ h ∈ s.arbiters[r.line].normal)) : s.ceilingReact h before r = s := by
  cases quality : r.quality with
  | none => simp only [State.ceilingReact, quality]
  | some q =>
    cases agreed : r.agreed with
    | none => simp only [State.ceilingReact, quality, agreed]
    | some k =>
      simp only [State.ceilingReact, quality, agreed, state]
      exact if_neg fun ⟨low, normal⟩ => stays ⟨⟨q, quality, k, agreed, low⟩, List.contains_iff_mem.1 normal⟩

/-- A record in another state is left as the sample left it (R57). -/
theorem State.ceilingReact_other (agreed : r.state ≠ .agreed) (waiting : r.state ≠ .waiting) :
    s.ceilingReact h before r = s := by
  unfold State.ceilingReact
  split
  · split
    next state => exact absurd state agreed
    next state => exact absurd state waiting
    all_goals rfl
  · rfl

end

/-! ### The frame at its record -/

section
variable {s : State} {l : LineId} {st : Station} {v : BitVec 8} {h : Handle} {r : Record}

theorem exec_quality_record (hears : s.hears l = true) (unique : s.KeysUnique) (has : s.hasRecord h r l st) :
    exec (.quality l st v) s = .next (State.takeQuality v (s.heardFrame l) h r) :=
  congrArg Host.Outcome.next ((if_pos hears).trans (State.toStation_of_hasRecord unique has))

theorem State.takeQuality_discarded (state : r.state = .parked ∨ r.state = .failed ∨ r.state = .retiring) :
    State.takeQuality v s h r = s := by
  obtain state | state | state := state <;> exact if_pos (by rw [state]; rfl)

section
variable {r1 : Record} (sampled : Record.sample (s.profileOf r.profile) s.ladders[(s.profileOf r.profile).ladder] v r = r1)
include sampled

/-- A sample that leaves the ceiling as it was leaves its record alone (R48). -/
theorem State.takeQuality_kept (takes : r.state.takesSamples = true)
    (same : r.quality.map Quality.ceiling = r1.quality.map Quality.ceiling) :
    State.takeQuality v s h r = s.putRecord h r1 := by
  subst sampled
  exact (if_neg (by rw [takes]; decide)).trans (if_pos same)

/-- A changed ceiling has its reaction, and then the hand-out (R54 to R57). -/
theorem State.takeQuality_changed (takes : r.state.takesSamples = true)
    (changed : r.quality.map Quality.ceiling ≠ r1.quality.map Quality.ceiling) :
    State.takeQuality v s h r = ((s.putRecord h r1).ceilingReact h r.quality r1).handOut r.line := by
  subst sampled
  exact (if_neg (by rw [takes]; decide)).trans (if_neg changed)

end

theorem Record.sample_quality {p : Profile} {ladder : Ladder} : (Record.sample p ladder v r).quality.isSome = true := by
  unfold Record.sample
  split
  · rfl
  · unfold Record.laterSample
    extract_lets rise fall raised lowered ceiling r1
    split <;> rfl

end

/-- A sample moves nothing that the reaction reads beside the quality field and forward blocked. -/
theorem Record.sample_kept (p : Profile) (ladder : Ladder) (v : BitVec 8) (r : Record) :
    let x := Record.sample p ladder v r
    x.state = r.state ∧ x.line = r.line ∧ x.profile = r.profile ∧ x.agreed = r.agreed ∧ x.remoteMask = r.remoteMask ∧
      x.capOverride = r.capOverride := by
  intro x
  obtain ⟨_, _, _, _, _, frame⟩ := Record.sample_frame p ladder v r
  rw [show x = _ from frame]
  exact ⟨rfl, rfl, rfl, rfl, rfl, rfl⟩

/-- The frame of a report link leaves the line ceilings as they are (R64). -/
theorem State.ceiling_heardFrame (s : State) (l : LineId) : (s.heardFrame l).lines[l].ceiling = s.lines[l].ceiling := by
  rw [State.line_heardFrame]
  rfl

/-- Settles O42: the sample where the record takes one, and the reaction by its state. -/
theorem qualityByState : Obligations.QualityByState := by
  intro s l st v h r hears unique has p u r1 u1 changed below above fell better
  obtain ⟨-, rfl, rfl⟩ := id has
  have sampled : Record.sample (u.profileOf r.profile) u.ladders[(u.profileOf r.profile).ladder] v r = r1 := rfl
  have present : r1.quality.isSome = true := Record.sample_quality
  obtain ⟨state, line, profile, agreed, mask, override⟩ : r1.state = r.state ∧ r1.line = r.line ∧ r1.profile = r.profile ∧
      r1.agreed = r.agreed ∧ r1.remoteMask = r.remoteMask ∧ r1.capOverride = r.capOverride :=
    Record.sample_kept p s.ladders[p.ladder] v r
  clear_value r1
  have low : r1.CeilingBelow ↔ below := by rw [Record.CeilingBelow, agreed]
  have high : r1.CeilingAbove ↔ above := by rw [Record.CeilingAbove, agreed]
  have holds : u1.HoldsBetter r1 ↔ better := by
    have ceiling : u1.lines[r1.line].ceiling = s.lines[r.line].ceiling :=
      (congrArg (fun l : LineId => u1.lines[l].ceiling) line).trans (s.ceiling_heardFrame r.line)
    rw [State.HoldsBetter, agreed, mask, override, profile, ceiling]
    rfl
  have up : u1.lineIsUp r1.line = s.lineIsUp r.line := by
    rw [line]
    exact s.lineIsUp_heardFrame r.line r.line
  have queue : u1.arbiters[r1.line].normal = s.arbiters[r.line].normal :=
    congrArg (fun l : LineId => u1.arbiters[l].normal) line
  have forward : u1.Forward r1 ↔
      above ∧ p.forwardEn = true ∧ r1.forwardBlocked = false ∧ better ∧ s.lineIsUp r.line = true := by
    rw [State.Forward, high, holds, up, profile]
    rfl
  have rose (c : changed) : ceilingRose r.quality r1.quality = true ↔ ¬fell := ceilingRose_iff present c
  rw [exec_quality_record hears unique has]
  refine ⟨fun idle => ?_, fun now c b => ?_, fun now c notFell a enabled free b isUp => ?_, fun now c b normal => ?_,
    fun takes same => ?_, fun stays c => ?_⟩
  · rw [State.takeQuality_discarded idle]
  · rw [State.takeQuality_changed sampled (by rw [now]; rfl) c, State.ceilingReact_agreed_below (state.trans now) (low.2 b)]
  · rw [State.takeQuality_changed sampled (by rw [now]; rfl) c, State.ceilingReact_agreed_forward (state.trans now)
      ((rose c).2 notFell) (forward.2 ⟨a, enabled, free, b, isUp⟩)]
  · rw [State.takeQuality_changed sampled (by rw [now]; rfl) c, State.ceilingReact_waiting_below (state.trans now) (low.2 b)
      (by rwa [queue])]
  · rw [State.takeQuality_kept sampled (by obtain now | now | now | now | now := takes <;> rw [now] <;> rfl) (not_not.1 same)]
  · have left : u1.ceilingReact h r.quality r1 = u1 := by
      obtain ⟨now, notBelow, why⟩ | ⟨now, why⟩ | now := stays
      · refine State.ceilingReact_agreed_stays (state.trans now) (mt low.1 notBelow) fun ⟨risen, conditions⟩ => ?_
        exact why.elim ((rose c).1 risen) fun fails => fails (forward.1 conditions)
      · exact State.ceilingReact_waiting_stays (state.trans now) (by rwa [low, queue])
      · obtain now | now | now := now <;> exact State.ceilingReact_other (by simp [state, now]) (by simp [state, now])
    have takes : r.state.takesSamples = true := by
      obtain ⟨now, -⟩ | ⟨now, -⟩ | now | now | now := stays <;> rw [now] <;> rfl
    rw [State.takeQuality_changed sampled takes c, left]

end Sys2Proof.Machine
end


section
/-! What a frame of one line reaches: that line, its arbiter and the slots that hold its records, nothing else (R64, R81). -/

namespace Sys2Proof.Machine

/-! ### Changes that stay on a line -/

/-- A slot holds no record of a line other than `l`. -/
def State.OfLine (s : State) (l : LineId) (h : Handle) : Prop := ∀ r ∈ s.record? h, r.line = l

/-- The wait queue of a line holds no record of another line (R81). -/
def State.WaitersOf (s : State) (l : LineId) : Prop := ∀ h ∈ s.arbiters[l].urgent ++ s.arbiters[l].normal, s.OfLine l h

/-- A change stays on a line: of the lines, the arbiters and the table it reaches line `l` and the slots of no other line, it puts
only these into the wait queue, and it reaches nothing else but the flags. -/
structure State.Local (l : LineId) (s t : State) : Prop where
  outside : t = { s with slots := t.slots, lines := t.lines, arbiters := t.arbiters, flags := t.flags }
  others : ∀ k : LineId, k ≠ l → t.lines[k] = s.lines[k] ∧ t.arbiters[k] = s.arbiters[k]
  slots : ∀ h : Handle, t.slots[h] = s.slots[h] ∨ (s.OfLine l h ∧ t.OfLine l h)
  waiters : ∀ h ∈ t.arbiters[l].urgent ++ t.arbiters[l].normal, h ∈ s.arbiters[l].urgent ++ s.arbiters[l].normal ∨ s.OfLine l h

section
variable {l : LineId} {s t u : State} {h : Handle} {r : Record}

theorem State.ofLine_of_record (hr : s.record? h = some r) (hl : r.line = l) : s.OfLine l h := by
  intro x hx
  cases hr.symm.trans hx
  exact hl

theorem State.ofLine_putRecord (hl : r.line = l) : (s.putRecord h r).OfLine l h :=
  State.ofLine_of_record (State.record?_putRecord_same s h r) hl

theorem State.Local.refl (l : LineId) (s : State) : State.Local l s s :=
  ⟨rfl, fun _ _ => ⟨rfl, rfl⟩, fun _ => .inl rfl, fun _ hm => .inl hm⟩

theorem State.Local.ofLine (a : State.Local l s t) (mine : s.OfLine l h) : t.OfLine l h := by
  obtain same | ⟨-, mine'⟩ := a.slots h
  · intro x hx
    exact mine x ((State.record?_congr s same).symm.trans hx)
  · exact mine'

theorem State.Local.waitersOf (a : State.Local l s t) (q : s.WaitersOf l) : t.WaitersOf l := fun h hm =>
  a.ofLine ((a.waiters h hm).elim (q h) id)

theorem State.Local.trans (a : State.Local l s t) (b : State.Local l t u) : State.Local l s u where
  outside := by
    have before := a.outside
    have after := b.outside
    rw [before] at after
    exact after
  others k hk := ⟨(b.others k hk).1.trans (a.others k hk).1, (b.others k hk).2.trans (a.others k hk).2⟩
  slots h := by
    obtain same | ⟨mine, mine'⟩ := a.slots h
    · obtain same' | ⟨mine, mine'⟩ := b.slots h
      · exact .inl (same'.trans same)
      · exact .inr ⟨fun x hx => mine x ((State.record?_congr s same).trans hx), mine'⟩
    · exact .inr ⟨mine, b.ofLine mine'⟩
  waiters h hm := by
    obtain old | mine := b.waiters h hm
    · exact a.waiters h old
    · obtain same | ⟨mine', -⟩ := a.slots h
      · exact .inr fun x hx => mine x ((State.record?_congr s same).trans hx)
      · exact .inr mine'

/-! ### The writes -/

theorem State.local_modLine (l : LineId) (s : State) (f : Line → Line) : State.Local l s (s.modLine l f) where
  outside := rfl
  others _ hk := ⟨s.line_modLine_other (Ne.symm hk) f, rfl⟩
  slots _ := .inl rfl
  waiters _ hm := .inl hm

theorem State.local_modArbiter {f : Arbiter → Arbiter} (joins : ∀ h ∈ (f s.arbiters[l]).urgent ++ (f s.arbiters[l]).normal,
    h ∈ s.arbiters[l].urgent ++ s.arbiters[l].normal ∨ s.OfLine l h) : State.Local l s (s.modArbiter l f) where
  outside := rfl
  others _ hk := ⟨rfl, s.arbiter_modArbiter_other (Ne.symm hk) f⟩
  slots _ := .inl rfl
  waiters h hm := by
    rw [State.arbiter_modArbiter_same] at hm
    exact joins h hm

/-- A record of the line takes the slot of no other line. -/
theorem State.local_putRecord (mine : s.OfLine l h) (hl : r.line = l) : State.Local l s (s.putRecord h r) where
  outside := rfl
  others _ _ := ⟨rfl, rfl⟩
  slots k := by
    by_cases hk : h = k
    · subst hk
      exact .inr ⟨mine, State.ofLine_putRecord hl⟩
    · exact .inl (s.slot_setBody_other hk _)
  waiters _ hm := .inl hm

theorem State.local_releaseGrant (l : LineId) (s : State) : State.Local l s (s.releaseGrant l) :=
  State.local_modArbiter fun _ hm => .inl hm

theorem State.local_sendDown (l : LineId) (s : State) (f : DownFrame) : State.Local l s (s.sendDown l f) := s.local_modLine l _

theorem State.local_sendAbandon (hl : r.line = l) : State.Local l s (s.sendAbandon r) := hl ▸ s.local_sendDown r.line _

theorem State.local_noteLine (l : LineId) (s : State) (kind : BitVec 5) : State.Local l s (s.noteLine l kind) := s.local_modLine l _

theorem State.local_flags (l : LineId) (s : State) (x : StickyFlags) : State.Local l s { s with flags := x } :=
  ⟨rfl, fun _ _ => ⟨rfl, rfl⟩, fun _ => .inl rfl, fun _ hm => .inl hm⟩

theorem State.local_join (mine : s.OfLine l h) (c : Cause) : State.Local l s (s.modArbiter l (Arbiter.join h c)) := by
  refine State.local_modArbiter fun k hm => ?_
  obtain ⟨x, y, before, after⟩ := Arbiter.join_queue (h := h) c s.arbiters[l]
  rw [after] at hm
  rw [before]
  obtain hx | hm := List.mem_append.1 hm
  · exact .inl (List.mem_append_left y hx)
  · obtain rfl | hy := List.mem_cons.1 hm
    · exact .inr mine
    · exact .inl (List.mem_append_right x hy)

theorem State.local_moveUrgent (mine : s.OfLine l h) : State.Local l s (s.modArbiter l (Arbiter.moveUrgent h)) := by
  refine State.local_modArbiter fun k hm => ?_
  obtain hu | hn := List.mem_append.1 hm
  · obtain hu | hk := List.mem_append.1 hu
    · exact .inl (List.mem_append_left _ hu)
    · exact .inr (List.mem_singleton.1 hk ▸ mine)
  · exact .inl (List.mem_append_right _ (List.mem_filter.1 hn).1)

/-! ### Requeueing, failure and the hand-out (R82 to R100) -/

theorem State.local_requeue (mine : s.OfLine l h) (c : Cause) : State.Local l s (s.requeue h c) := by
  cases hr : s.record? h with
  | none => rw [State.requeue, hr]; exact .refl l s
  | some r =>
    have hl := mine r hr
    have stored : State.Local l s (s.putRecord h (Record.requeued s.env c r)) :=
      State.local_putRecord mine ((Record.sameKey_requeued s.env c r).1.trans hl)
    rw [State.requeue_eq hr, hl]
    split
    · exact stored.trans (State.local_join (stored.ofLine mine) c)
    · exact stored

theorem State.local_classMove (mine : s.OfLine l h) (c : Cause) : State.Local l s (s.classMove h c) := by
  unfold State.classMove
  split
  · exact .refl l s
  next r hr =>
    have hl := mine r hr
    subst hl
    have stored : State.Local r.line s (s.putRecord h { r with cause := some c }) := State.local_putRecord mine rfl
    exact stored.trans (State.local_moveUrgent (stored.ofLine mine))

theorem State.local_postCheck (mine : s.OfLine l h) : State.Local l s (s.postCheck h) := by
  obtain e | ⟨c, -, e⟩ := s.postCheck_cases h
  · rw [e]; exact .refl l s
  · rw [e]; exact State.local_requeue mine c

theorem State.local_failAttempt (mine : s.OfLine l h) {w : FailReason}
    (down : w = .noCarrier → ∀ r ∈ s.record? h, r.carrier = .down) :
    State.Local l s (s.failAttempt h w) := by
  cases hr : s.record? h with
  | none => rw [State.failAttempt, hr]; exact .refl l s
  | some r =>
    have hl := mine r hr
    have freed : State.Local l s (s.releaseGrant r.line) := hl ▸ s.local_releaseGrant r.line
    obtain ⟨u, f, ⟨-, -, e⟩ | ⟨c, -, -, -, e⟩⟩ := State.failAttempt_cases hr w fun e => down e r hr
    · rw [e]
      exact freed.trans (State.local_putRecord (freed.ofLine mine) (f.sameKey.1.trans hl))
    · have returned := freed.trans (State.local_putRecord (r := Record.returned s.env r) (freed.ofLine mine) hl)
      rw [e]
      exact returned.trans (State.local_requeue (returned.ofLine mine) c)

theorem State.local_startAttempt (mine : s.OfLine l h) : State.Local l s (s.startAttempt l h) := by
  obtain ⟨-, e⟩ | ⟨r, hr, ⟨offer, e⟩ | e⟩ := s.startAttempt_cases l h
  · rw [e]; exact s.local_releaseGrant l
  · have hl := mine r hr
    subst hl
    rw [e]
    refine State.Local.trans (State.local_putRecord mine ?_) (State.local_sendDown r.line _ _)
    rfl
  · have started : State.Local l s (s.putRecord h (Record.enter (s.profileOf r.profile) .negotiating r)) :=
      State.local_putRecord mine (mine r hr)
    rw [e]
    exact started.trans (State.local_failAttempt (started.ofLine mine) nofun)

/-- The turns of the hand-out stay on the line of the records that wait for it (R81, R83). -/
theorem State.local_handOutLoop (n : Nat) (q : s.WaitersOf l) : State.Local l s (handOutLoop n l s) := by
  induction n generalizing s with
  | zero => exact .refl l s
  | succ n ih =>
    obtain e | ⟨h, next, e⟩ := handOutLoop_cases n l s
    · rw [e]; exact .refl l s
    · have queue := (Arbiter.giveGrant_queue next).2
      have given : State.Local l s (s.modArbiter l Arbiter.giveGrant) :=
        State.local_modArbiter fun k hm => .inl (by rw [queue]; exact List.mem_cons_of_mem h hm)
      have turn := given.trans (State.local_startAttempt (given.ofLine (q h (by rw [queue]; exact List.mem_cons_self))))
      rw [e]
      exact turn.trans (ih (turn.waitersOf q))

theorem State.Local.handOut (a : State.Local l s t) (q : s.WaitersOf l) : State.Local l s (t.handOut l) :=
  a.trans (State.local_handOutLoop _ (a.waitersOf q))

theorem State.local_abandonAndFail (mine : s.OfLine l h) (hl : r.line = l) (q : s.WaitersOf l) {w : FailReason}
    (down : w = .noCarrier → ∀ x ∈ s.record? h, x.carrier = .down) : State.Local l s (s.abandonAndFail h r w) := by
  have sent : State.Local l s (s.sendAbandon r) := State.local_sendAbandon hl
  rw [State.abandonAndFail, hl]
  exact (sent.trans (State.local_failAttempt (sent.ofLine mine) down)).handOut q

theorem State.local_succeed (mine : s.OfLine l h) (hl : r.line = l) (q : s.WaitersOf l) (k : Step) :
    State.Local l s (s.succeed h r k) := by
  subst hl
  have freed := s.local_releaseGrant r.line
  have agreed : State.Local r.line s ((s.releaseGrant r.line).putRecord h (Record.succeeded s.env k r)) :=
    freed.trans (State.local_putRecord (freed.ofLine mine) (by rw [Record.succeeded_eq]))
  exact (agreed.trans (State.local_postCheck (agreed.ofLine mine))).handOut q

/-! ### Frames of the line (R63 to R68) -/

theorem State.local_leaveVisit (l : LineId) (h : Handle) (s : State) : State.Local l s (s.leaveVisit l h) := by
  unfold State.leaveVisit
  split
  · exact .refl l s
  next r hr =>
    split
    next hl => exact State.local_putRecord (State.ofLine_of_record hr hl) ((Record.sameKey_lineLeftUp s r).1.trans hl)
    · exact .refl l s

theorem State.local_forHandles {f : Handle → State → State} (visit : ∀ h t, State.Local l t (f h t)) :
    State.Local l s (s.forHandles f) :=
  s.forHandles_induction (P := State.Local l s) (fun h t a => a.trans (visit h t)) (.refl l s)

theorem State.local_lineLeavesUp (l : LineId) (s : State) : State.Local l s (s.lineLeavesUp l) := by
  rw [State.lineLeavesUp_eq]
  exact (State.local_forHandles (State.local_leaveVisit l)).trans (State.local_modArbiter fun _ hm => nomatch hm)

theorem State.local_upVisit (l : LineId) (h : Handle) (s : State) : State.Local l s (s.upVisit l h) := by
  unfold State.upVisit
  split
  · exact .refl l s
  next r hr =>
    split
    next parked => exact State.local_requeue (State.ofLine_of_record hr parked.1) .lineUp
    · exact .refl l s

theorem State.local_ceilingVisit (l : LineId) (c : Step) (h : Handle) (s : State) : State.Local l s (s.ceilingVisit l c h) := by
  unfold State.ceilingVisit
  split
  · exact .refl l s
  next r hr =>
    split
    · exact .refl l s
    · split
      next above =>
        have mine := State.ofLine_of_record hr above.1
        split
        case h_1 | h_2 => exact State.local_requeue mine .lineCeiling
        case h_3 =>
          split
          · exact State.local_classMove mine .lineCeiling
          · exact .refl l s
        all_goals exact .refl l s
      · exact .refl l s

theorem State.local_takeLineUp (q : s.WaitersOf l) (k : Step) : State.Local l s (s.takeLineUp l k) := by
  have line := s.local_modLine l (Line.upFrame s.now k)
  show State.Local l s (if s.lines[l].state ≠ .up then (s.modLine l (Line.upFrame s.now k)).lineBecomesUp l
    else if k < s.lines[l].ceiling then (s.modLine l (Line.upFrame s.now k)).ceilingLowered l k
    else s.modLine l (Line.upFrame s.now k))
  split
  · exact (line.trans (State.local_forHandles (State.local_upVisit l))).handOut q
  · split
    · exact (line.trans (State.local_forHandles (State.local_ceilingVisit l k))).handOut q
    · exact line

theorem State.local_takeLineDown (l : LineId) (s : State) : State.Local l s (s.takeLineDown l) := by
  have line := s.local_modLine l fun ln => Line.restartSilence s.now { Line.enter .down ln with badRun := 0 }
  unfold State.takeLineDown
  dsimp only
  split
  · exact line.trans (State.local_lineLeavesUp l _)
  · exact line

theorem State.local_loseLine (l : LineId) (s : State) : State.Local l s (s.loseLine l) := by
  have line := s.local_modLine l Line.lose
  unfold State.loseLine
  dsimp only
  split
  · exact line.trans (State.local_lineLeavesUp l _)
  · exact line

theorem State.local_takeMalformed (l : LineId) (s : State) : State.Local l s (s.takeMalformed l) := by
  have line := s.local_modLine l fun ln => { ln with badRun := min (s.lines[l].badRun + 1) Config.badRunLimit }
  unfold State.takeMalformed
  dsimp only
  split
  · exact line.trans (State.local_loseLine l _)
  · exact line

theorem State.local_heardFrame (l : LineId) (s : State) : State.Local l s (s.heardFrame l) := s.local_modLine l _

/-! ### Station frames (R69 to R72) -/

theorem State.local_capabilityOffered (mine : s.OfLine l h) (hl : r.line = l) (q : s.WaitersOf l) (a : Attempt) (m : StepSet) :
    State.Local l s (s.capabilityOffered h r a m) := by
  have line : (Record.takeMask (s.profileOf r.profile) m r).line = l := (Record.takeMask_line _ _ r).trans hl
  unfold State.capabilityOffered
  dsimp only
  split
  · have masked := State.local_putRecord mine line
    exact masked.trans (State.local_abandonAndFail (masked.ofLine mine) line (masked.waitersOf q) nofun)
  · rw [hl]
    refine State.Local.trans (State.local_putRecord mine ?_) (State.local_sendDown l _ _)
    exact line

theorem State.local_capabilityOrdered (mine : s.OfLine l h) (hl : r.line = l) (q : s.WaitersOf l) (k : Step) (m : StepSet) :
    State.Local l s (s.capabilityOrdered h r k m) := by
  have line : (Record.takeMask (s.profileOf r.profile) m r).line = l := (Record.takeMask_line _ _ r).trans hl
  have masked := State.local_putRecord mine line
  unfold State.capabilityOrdered
  dsimp only
  split
  · exact masked
  · exact masked.trans (State.local_abandonAndFail (masked.ofLine mine) line (masked.waitersOf q) nofun)

theorem State.local_capabilityRecord (mine : s.OfLine l h) (hl : r.line = l) (q : s.WaitersOf l) (m : StepSet) :
    State.Local l s (s.capabilityRecord h r m) := by
  have line : (Record.takeMask (s.profileOf r.profile) m r).line = l := (Record.takeMask_line _ _ r).trans hl
  have requeued (x : Record) (hx : x.line = l) : State.Local l s (((s.putRecord h x).requeue h .remote).handOut r.line) := by
    have stored := State.local_putRecord mine hx
    rw [hl]
    exact (stored.trans (State.local_requeue (stored.ofLine mine) .remote)).handOut q
  unfold State.capabilityRecord
  dsimp only
  split
  case h_1 =>
    split
    · exact .refl l s
    · split
      · exact State.local_capabilityOffered mine hl q _ m
      · exact State.local_capabilityOrdered mine hl q _ m
  case h_2 | h_3 => exact requeued _ line
  case h_4 | h_5 => exact State.local_putRecord mine line
  all_goals exact State.local_sendAbandon hl

theorem State.local_refuseLineBorn (l : LineId) (s : State) (st : Station) : State.Local l s (s.refuseLineBorn l st) :=
  (s.local_sendDown l _).trans (State.local_noteLine l _ _)

/-- A record is created in a slot that holds none (R14, R17). -/
theorem State.local_created (empty : s.record? h = none) (hl : r.line = l) : State.Local l s (s.created h r) where
  outside := by rw [State.created_eq]
  others k hk := by
    rw [State.lines_created, State.created_arbiters, hl]
    refine ⟨rfl, ?_⟩
    split
    · exact s.arbiter_modArbiter_other (Ne.symm hk) _
    · rfl
  slots k := by
    by_cases hk : k = h
    · subst hk
      exact .inr ⟨fun _ hx => (nomatch empty.symm.trans hx), State.ofLine_of_record (s.record?_created_same k r) hl⟩
    · exact .inl (State.slot_created_other hk)
  waiters k hm := by
    rw [State.created_arbiters, hl] at hm
    split at hm
    · rw [State.arbiter_modArbiter_same, ← List.append_assoc] at hm
      obtain old | new := List.mem_append.1 hm
      · exact .inl old
      · rw [List.mem_singleton.1 new]
        exact .inr fun _ hx => nomatch empty.symm.trans hx
    · exact .inl hm

theorem State.local_lineBorn (q : s.WaitersOf l) (st : Station) (m : StepSet) : State.Local l s (s.lineBorn l st m) := by
  rw [State.lineBorn_eq]
  split
  · exact s.local_refuseLineBorn l st
  · split
    · exact s.local_refuseLineBorn l st
    · split
      · exact (s.local_flags l _).trans (State.local_refuseLineBorn l _ st)
      next h chosen =>
        have empty : s.record? h = none := by
          rw [Option.eq_none_iff_forall_ne_some]
          intro r hr
          have := State.notLive_of_chooseSlot chosen
          rw [s.body_of_record? hr] at this
          cases this
        exact (State.local_created (l := l) empty rfl).handOut q

theorem State.local_toStation (q : s.WaitersOf l) {st : Station} {f : State → Handle → Record → State}
    (hf : ∀ t h r, State.record? t h = some r → r.line = l → t.WaitersOf l → State.Local l t (f t h r)) :
    State.Local l s ((s.heardFrame l).toStation l st f) := by
  have heard := s.local_heardFrame l
  refine heard.trans ?_
  unfold State.toStation
  split
  · exact State.local_noteLine l _ _
  next h found =>
    obtain ⟨x, hx, hl, -⟩ := State.findKey_some found
    rw [hx]
    exact hf _ h x hx hl (heard.waitersOf q)

theorem State.local_takeCapability (q : s.WaitersOf l) (st : Station) (m : StepSet) :
    State.Local l s ((s.heardFrame l).takeCapability l st m) := by
  have heard := s.local_heardFrame l
  refine heard.trans ?_
  unfold State.takeCapability
  split
  · exact State.local_lineBorn (heard.waitersOf q) st m
  next h found =>
    obtain ⟨x, hx, hl, -⟩ := State.findKey_some found
    rw [hx]
    exact State.local_capabilityRecord (State.ofLine_of_record hx hl) hl (heard.waitersOf q) m

theorem State.local_takeOutcome (w : OutcomeReason) (hr : s.record? h = some r) (hl : r.line = l) (q : s.WaitersOf l) :
    State.Local l s (State.takeOutcome w s h r) := by
  subst hl
  unfold State.takeOutcome
  split
  · exact s.local_noteLine _ _
  · split
    · refine (State.local_failAttempt (State.ofLine_of_record hr rfl) ?_).handOut q
      cases w <;> exact nofun
    · exact s.local_noteLine _ _

theorem State.local_takeConfirm (k : Step) (hr : s.record? h = some r) (hl : r.line = l) (q : s.WaitersOf l) :
    State.Local l s (State.takeConfirm k s h r) := by
  have mine := State.ofLine_of_record hr hl
  unfold State.takeConfirm
  split
  · exact hl ▸ s.local_noteLine _ _
  · split
    · exact hl ▸ s.local_noteLine _ _
    · split
      · exact State.local_succeed mine hl q _
      · exact State.local_abandonAndFail mine hl q nofun

theorem State.local_takeCarrier (w : CarrierReport) (hr : s.record? h = some r) (hl : r.line = l) (q : s.WaitersOf l) :
    State.Local l s (State.takeCarrier w s h r) := by
  have mine := State.ofLine_of_record hr hl
  unfold State.takeCarrier
  split
  · unfold State.carrierUp
    dsimp only
    split
    all_goals exact State.local_putRecord mine hl
  · unfold State.carrierDown
    dsimp only
    split
    case h_2 => exact .refl l s
    case h_3 =>
      have stored : State.Local l s (s.putRecord h { r with carrier := .down }) := State.local_putRecord mine hl
      refine stored.trans (State.local_abandonAndFail (r := { r with carrier := .down }) (stored.ofLine mine) hl (stored.waitersOf q)
        fun _ x hx => ?_)
      cases (State.record?_putRecord_same s h _).symm.trans hx
      rfl
    all_goals exact State.local_putRecord mine hl

theorem State.local_ceilingReact (mine : s.OfLine l h) (before : Option Quality) (r : Record) :
    State.Local l s (s.ceilingReact h before r) := by
  unfold State.ceilingReact
  split
  · split
    case h_1 =>
      split
      · exact State.local_requeue mine _
      · split
        · exact State.local_requeue mine _
        · exact .refl l s
    case h_2 =>
      split
      · exact State.local_classMove mine _
      · exact .refl l s
    all_goals exact .refl l s
  · exact .refl l s

theorem State.local_takeQuality (v : BitVec 8) (hr : s.record? h = some r) (hl : r.line = l) (q : s.WaitersOf l) :
    State.Local l s (State.takeQuality v s h r) := by
  have mine := State.ofLine_of_record hr hl
  unfold State.takeQuality
  dsimp only
  split
  · exact .refl l s
  · have sampled : State.Local l s
        (s.putRecord h (Record.sample (s.profileOf r.profile) s.ladders[(s.profileOf r.profile).ladder] v r)) := by
      refine State.local_putRecord mine ?_
      obtain ⟨_, _, _, _, _, e⟩ := Record.sample_frame (s.profileOf r.profile) s.ladders[(s.profileOf r.profile).ladder] v r
      rw [e]
      exact hl
    split
    · exact sampled
    · rw [hl]
      exact (sampled.trans (State.local_ceilingReact (sampled.ofLine mine) _ _)).handOut q

/-! ### Every frame -/

theorem State.Local.ite {c : Prop} [Decidable c] (a : State.Local l s t) : State.Local l s (if c then t else s) := by
  split
  · exact a
  · exact .refl l s

/-- A frame of a line stays on it, where the wait queue of the line holds its own records (R64, R81). -/
theorem exec_local {c : Instr} (frame : frameLine? c = some l) (q : s.WaitersOf l) : ∃ t, exec c s = .next t ∧ State.Local l s t := by
  cases c
  case lineUp k c => cases frame; exact ⟨_, rfl, (State.local_takeLineUp q c).ite⟩
  case lineDown k => cases frame; exact ⟨_, rfl, (s.local_takeLineDown l).ite⟩
  case alive k => cases frame; exact ⟨_, rfl, (s.local_heardFrame l).ite⟩
  case capability k st m => cases frame; exact ⟨_, rfl, (State.local_takeCapability q st m).ite⟩
  case outcome k st w =>
    cases frame; exact ⟨_, rfl, (State.local_toStation q fun _ _ _ => State.local_takeOutcome w).ite⟩
  case confirm k st c =>
    cases frame; exact ⟨_, rfl, (State.local_toStation q fun _ _ _ => State.local_takeConfirm c).ite⟩
  case carrier k st w =>
    cases frame; exact ⟨_, rfl, (State.local_toStation q fun _ _ _ => State.local_takeCarrier w).ite⟩
  case quality k st v =>
    cases frame; exact ⟨_, rfl, (State.local_toStation q fun _ _ _ => State.local_takeQuality v).ite⟩
  case malformedFrame k => cases frame; exact ⟨_, rfl, (s.local_takeMalformed l).ite⟩
  all_goals cases frame

theorem State.ArbitersOk.waitersOf (ok : s.ArbitersOk) (l : LineId) : s.WaitersOf l := fun h hm => by
  obtain ⟨-, waits, -⟩ := ok l
  obtain ⟨r, hr, hl, -⟩ := (waits h).1 hm
  exact State.ofLine_of_record hr hl

end

/-- Settles O59: every operation of a frame stays on its line, since the wait queue names its records alone. -/
theorem framesOfOneLineStayOnIt : Obligations.FramesOfOneLineStayOnIt := by
  intro s t c l ok frame e
  obtain ⟨u, e', stays⟩ := exec_local frame (ok.waitersOf l)
  cases e'.symm.trans e
  have outside := stays.outside
  refine ⟨by rw [outside], by rw [outside], stays.others, fun h r hr other => ?_⟩
  exact (stays.slots h).resolve_right fun mine => other (mine.1 r hr)

end Sys2Proof.Machine
end


section
/-! The line configuration commands (R75, R76, R78, R174). -/

namespace Sys2Proof.Machine

/-! ### LINE_CONFIG and LINE_ACK (R75, R78) -/

theorem Word.inRange?_wordOf {lo hi n : Nat} (low : lo ≤ n) (high : n ≤ hi) (word : hi < 65536) :
    Word.inRange? lo hi (wordOf n) = some n := by
  rw [Word.inRange?, toNat_wordOf (lt_of_le_of_lt high word), if_pos ⟨low, high⟩]

@[simp] theorem Word.below_mode (m : Fin 2) : Word.below 2 (wordOf m.val) = some m := Word.below_wordOf m (by decide)

theorem modeOf_eq (m : Fin 2) : modeOf m = if m = 0 then .closed else .opened := by
  revert m
  decide

/-- What LINE_CONFIG does with arguments in their ranges: the profile first, then the quota (R75). -/
theorem cmdLineConfig_eq {s : State} {l : LineId} {quota keepalive : Nat} {mode : Fin 2} {p : Fin 16} (code : Word)
    (most : quota ≤ 64) (least : 1 ≤ keepalive) (longest : keepalive ≤ 255) :
    cmdLineConfig (s.started code [lineWord l, wordOf quota, wordOf mode.val, wordOf p.val, wordOf keepalive]) =
      let u := s.started code [lineWord l, wordOf quota, wordOf mode.val, wordOf p.val, wordOf keepalive]
      if s.isValid p = false then .done u .badArg []
      else if quota < s.liveCount l then .done u .inUse [wordOf (s.liveCount l)]
      else .done (u.modLine l fun ln =>
        { ln with quota := quota, mode := modeOf mode, defaultProfile := p, keepalive := keepalive }) .ok
        [wordOf (s.liveCount l)] := by
  have quotaArg := Word.inRange?_wordOf (Nat.zero_le quota) most (by decide)
  have keepaliveArg := Word.inRange?_wordOf least longest (by decide)
  simp [cmdLineConfig, quotaArg, keepaliveArg]

/-- Settles O30: the profile is judged before the quota, and the four fields are set together; the named kinds are removed. -/
theorem lineConfigAndLineAck : Obligations.LineConfigAndLineAck := by
  refine ⟨fun s l quota keepalive mode p ready most least longest => ⟨fun invalid => ?_, fun valid crowded => ?_,
    fun valid room => ?_⟩, fun s l kinds ready => ?_⟩
  · exact exec_unchanged rfl ready ((cmdLineConfig_eq 0x20 most least longest).trans (if_pos invalid))
  · refine exec_unchanged rfl ready ((cmdLineConfig_eq 0x20 most least longest).trans ?_)
    dsimp only
    rw [if_neg (by rw [valid]; decide), if_pos crowded]
  · refine exec_answers rfl ready (s.outer_modLine l _) ((cmdLineConfig_eq 0x20 most least longest).trans ?_)
    dsimp only
    rw [if_neg (by rw [valid]; decide), if_neg (not_lt.2 room), modeOf_eq]
    rfl
  · refine ⟨s.lines[l].changes &&& ~~~kinds, fun i => ?_, exec_answers rfl ready (s.outer_modLine l _) ?_⟩
    · simp
    · show cmdLineAck _ = _
      simp [cmdLineAck]

/-! ### LINE_READ (R76, R174) -/

section
variable {a b c d e f : Nat}

theorem fields_six (u : BitVec a) (v : BitVec b) (w : BitVec c) (x : BitVec d) (y : BitVec e) (z : BitVec f) :
    (u ++ v ++ w ++ x ++ y ++ z).extractLsb' 0 f = z ∧ (u ++ v ++ w ++ x ++ y ++ z).extractLsb' f e = y ∧
      (u ++ v ++ w ++ x ++ y ++ z).extractLsb' (e + f) d = x ∧ (u ++ v ++ w ++ x ++ y ++ z).extractLsb' (d + e + f) c = w ∧
      (u ++ v ++ w ++ x ++ y ++ z).extractLsb' (c + d + e + f) b = v ∧
      (u ++ v ++ w ++ x ++ y ++ z).extractLsb' (b + c + d + e + f) a = u := by
  obtain ⟨hy, hx, hw, hv, hu⟩ := fields_five u v w x y
  refine ⟨BitVec.extractLsb'_append_eq_right, ?_, ?_, ?_, ?_, ?_⟩
  · rw [BitVec.extractLsb'_append_eq_of_le (le_refl f), Nat.sub_self, hy]
  all_goals rw [BitVec.extractLsb'_append_eq_of_le (Nat.le_add_left f _), Nat.add_sub_cancel]
  · exact hx
  · exact hw
  · exact hv
  · exact hu

theorem toNat_zero_append {x : BitVec b} : ((0 : BitVec a) ++ x).toNat = x.toNat := by simp

theorem setWidth_eq_zero_append (x : BitVec b) : (0 : BitVec a) ++ x = x.setWidth (a + b) := by
  refine BitVec.eq_of_toNat_eq ?_
  rw [toNat_zero_append, BitVec.toNat_setWidth_of_le (Nat.le_add_left b a)]

end

/-- Settles O31: the results are the words of Table 13-10 for the line, each read field by field. -/
theorem lineReadReportsALine : Obligations.LineReadReportsALine := by
  intro s l ready ok count
  have runs : exec (.lineRead (lineWord l)) s =
      .next (s.answered 0x21 [lineWord l] .ok (lineWords s.lines[l] (s.liveCount l))) := by
    refine exec_unchanged rfl ready ?_
    show cmdLineRead _ = _
    simp [cmdLineRead]
  refine ⟨_, runs, ⟨_, rfl⟩, ?_⟩
  obtain ⟨quota, -, keepalive, run, queue, -⟩ := ok
  simp only [answered_res]
  generalize s.lines[l] = ln at *
  obtain ⟨state, -, ceiling, mode, -, profile⟩ := fields_six (BitVec.ofNat 4 ln.defaultProfile.val) (0 : BitVec 3)
    (bit (decide (ln.mode = .opened))) (BitVec.ofNat 4 (Step.number ln.ceiling)) (0 : BitVec 2) ln.state.code
  obtain ⟨quotaField, -, keepaliveField⟩ := fields_three (BitVec.ofNat 8 ln.keepalive) (0 : BitVec 1) (BitVec.ofNat 7 ln.quota)
  obtain ⟨runField, -, silence⟩ := fields_three (bit ln.silence.isSome) (0 : BitVec 11) (BitVec.ofNat 4 ln.badRun)
  refine ⟨state, ?_, ?_, ?_, ?_, ?_, getLsbD_of_field silence, ?_, ?_, ?_, ?_, rfl, rfl⟩
  · exact (congrArg BitVec.toNat ceiling).trans (toNat_field (Nat.lt_of_lt_of_le (Nat.succ_lt_succ ln.ceiling.isLt) (by decide)))
  · exact (Bool.eq_iff_iff.1 (getLsbD_of_field mode)).trans decide_eq_true_iff
  · exact (congrArg BitVec.toNat profile).trans (toNat_field ln.defaultProfile.isLt)
  · exact (congrArg BitVec.toNat quotaField).trans (toNat_field (Nat.lt_of_le_of_lt quota (by decide)))
  · exact (congrArg BitVec.toNat keepaliveField).trans (toNat_field (Nat.lt_of_le_of_lt keepalive (by decide)))
  · exact (congrArg BitVec.toNat runField).trans (toNat_field (Nat.lt_of_le_of_lt run (by decide)))
  · exact toNat_zero_append.trans (toNat_field (Nat.lt_of_le_of_lt count (by decide)))
  · exact setWidth_eq_zero_append ln.changes
  · exact toNat_zero_append.trans (toNat_field (Nat.lt_of_le_of_lt queue (by decide)))

end Sys2Proof.Machine
end


section
/-! Frames that move no record, and a line that becomes UP or lowers its ceiling (R63 to R68, R104, R118). -/

namespace Sys2Proof.Machine

section
variable {s t : State} {l : LineId} {h : Handle} {r : Record}

/-! ### Frames that move no record (R63 to R67) -/

/-- The line record of a LINE UP frame, in the words of the statements (R66, R67). -/
theorem Line.upFrame_eq (now : Nat) (k : Step) (x : Line) : Line.upFrame now k x = { lineAfterFrame .up now x with
    ceiling := k
    changes := if x.ceiling = k then (lineAfterFrame .up now x).changes
      else (lineAfterFrame .up now x).changes ||| lineKindCeiling } := by
  rw [Line.upFrame, Line.takeCeiling_restartSilence, lineAfterFrame_eq, Line.takeCeiling_eq]
  rfl

theorem LineState.heard_eq (st : LineState) : st.heard = if st = .absent ∨ st = .lost then .down else st := by
  cases st <;> rfl

theorem exec_alive (hears : s.hears l = true) :
    exec (.alive l) s = .next (s.modLine l (lineAfterFrame s.lines[l].state.heard s.now)) := by
  show execAlive l s = _
  rw [execAlive, if_pos hears, State.heardFrame,
    State.modLine_congr (f' := lineAfterFrame s.lines[l].state.heard s.now) (lineAfterFrame_eq _ s.now s.lines[l])]

theorem exec_lineDown_notUp (hears : s.hears l = true) (notUp : s.lines[l].state ≠ .up) :
    exec (.lineDown l) s = .next (s.modLine l (lineAfterFrame .down s.now)) := by
  show execLineDown l s = _
  rw [execLineDown, if_pos hears, State.takeLineDown, State.lineIsUp_of_state rfl, decide_eq_false notUp,
    State.modLine_congr (f' := lineAfterFrame .down s.now) (lineAfterFrame_eq .down s.now s.lines[l])]
  rfl

/-- A LINE UP frame by the line it finds (R66 to R68). -/
theorem exec_lineUp (hears : s.hears l = true) (k : Step) : exec (.lineUp l k) s = .next
    (if s.lines[l].state ≠ .up then (s.modLine l (Line.upFrame s.now k)).lineBecomesUp l
    else if k < s.lines[l].ceiling then (s.modLine l (Line.upFrame s.now k)).ceilingLowered l k
    else s.modLine l (Line.upFrame s.now k)) :=
  congrArg Host.Outcome.next (if_pos hears)

theorem exec_malformedFrame_counts (hears : s.hears l = true)
    (quiet : s.lines[l].badRun ≠ 7 ∨ s.lines[l].state = .absent ∨ s.lines[l].state = .lost) :
    exec (.malformedFrame l) s = .next (s.modLine l fun ln => { ln with badRun := min (ln.badRun + 1) 8 }) := by
  have stays : ¬(s.lines[l].badRun + 1 = Config.badRunLimit ∧ (s.lines[l].state = .down ∨ s.lines[l].state = .up)) := by
    rintro ⟨run, known⟩
    obtain other | unknown | unknown := quiet
    · exact other (Nat.succ.inj run)
    all_goals rw [unknown] at known; rcases known with c | c <;> cases c
  show execMalformedFrame l s = _
  rw [execMalformedFrame, if_pos hears, State.takeMalformed]
  rw [if_neg stays]
  exact congrArg Host.Outcome.next (State.modLine_congr rfl)

theorem exec_malformedFrame_loses (hears : s.hears l = true) (run : s.lines[l].badRun = 7) (down : s.lines[l].state = .down) :
    exec (.malformedFrame l) s = .next (s.modLine l fun ln => { ln.lost with badRun := 8 }) := by
  have counted : (s.modLine l fun ln => { ln with badRun := min (s.lines[l].badRun + 1) Config.badRunLimit }).lines[l].state =
      .down := by
    rw [State.line_modLine_same]
    exact down
  show execMalformedFrame l s = _
  rw [execMalformedFrame, if_pos hears, State.takeMalformed]
  dsimp only
  rw [if_pos ⟨by rw [run]; rfl, .inl down⟩, State.loseLine_down counted, State.modLine_modLine, run]
  rfl

/-! ### The visits of a line that becomes UP (R118) -/

theorem State.upVisit_frame (s : State) (l : LineId) (h : Handle) :
    s.upVisit l h = { s with slots := (s.upVisit l h).slots, arbiters := (s.upVisit l h).arbiters } := by
  unfold State.upVisit
  split
  · rfl
  next r hr =>
    split
    · rw [State.requeue_eq hr]
      split <;> rfl
    · rfl

theorem State.upVisits_frame (s : State) (l : LineId) : s.forHandles (State.upVisit l) = { s with
    slots := (s.forHandles (State.upVisit l)).slots, arbiters := (s.forHandles (State.upVisit l)).arbiters } :=
  s.forHandles_induction (P := fun t => t = { s with slots := t.slots, arbiters := t.arbiters }) (f := State.upVisit l)
    (fun h t e => by
      have frame := t.upVisit_frame l h
      rw [e] at frame ⊢
      exact frame) rfl

/-- A PARKED record of the line joins the tail of the normal class of its UP line (R82, R118). -/
theorem State.arbiter_upVisit (up : s.lineIsUp l = true) (h : Handle) : (s.upVisit l h).arbiters[l] = { s.arbiters[l] with
    normal := s.arbiters[l].normal ++ if ∃ r ∈ s.record? h, r.line = l ∧ r.state = .parked then [h] else [] } := by
  unfold State.upVisit
  cases hr : s.record? h with
  | none => simp
  | some r =>
    by_cases parked : r.line = l ∧ r.state = .parked
    · have found : ∃ x ∈ some r, x.line = l ∧ x.state = .parked := ⟨r, rfl, parked⟩
      rw [if_pos found]
      simp only [parked, State.requeue_eq hr, up, and_self, if_true, State.arbiter_modArbiter_same]
      rfl
    · have nothing : ¬∃ x ∈ some r, x.line = l ∧ x.state = .parked :=
        fun ⟨_, hx, found⟩ => parked (Option.some.inj hx ▸ found)
      rw [if_neg nothing, List.append_nil]
      simp only [if_neg parked]

/-- The visits queue the PARKED records in the order of their handles (R118). -/
theorem State.arbiter_foldl_upVisit (hs : List Handle) (nodup : hs.Nodup) (up : s.lineIsUp l = true) :
    (hs.foldl (fun t h => t.upVisit l h) s).arbiters[l] = { s.arbiters[l] with
      normal := s.arbiters[l].normal ++ hs.filter fun h => decide (∃ r ∈ s.record? h, r.line = l ∧ r.state = .parked) } := by
  induction hs generalizing s with
  | nil => simp
  | cons h hs ih =>
    obtain ⟨new, nodup⟩ := List.nodup_cons.1 nodup
    have others : hs.filter (fun k => decide (∃ r ∈ (s.upVisit l h).record? k, r.line = l ∧ r.state = .parked)) =
        hs.filter fun k => decide (∃ r ∈ s.record? k, r.line = l ∧ r.state = .parked) := by
      refine List.filter_congr fun k hk => ?_
      rw [State.record?_congr s (s.upVisit_other l (h := h) fun e => new (e ▸ hk))]
    have up' : (s.upVisit l h).lineIsUp l = true := ((s.moves_upVisit (g := True) l h).up l).trans up
    rw [List.foldl_cons, ih nodup up', others, State.arbiter_upVisit up h, List.filter_cons]
    by_cases parked : ∃ r ∈ s.record? h, r.line = l ∧ r.state = .parked
    · rw [if_pos parked, if_pos (decide_eq_true parked), List.append_assoc]
      rfl
    · rw [if_neg parked, if_neg (by simpa using parked), List.append_nil]

theorem State.slot_upVisits_other (none : ¬∃ r ∈ s.record? h, r.line = l ∧ r.state = .parked) :
    (s.forHandles (State.upVisit l)).slots[h] = s.slots[h] := by
  rw [State.slot_upVisits]
  cases body : s.slots[h].body with
  | live r =>
    rw [SlotBody.lineBecameUp, if_neg fun parked => none ⟨r, s.record?_of_body body, parked⟩, ← body]
  | free | vacated => exact (congrArg (Slot.mk _) body.symm :)

theorem State.record?_upVisits_parked (hr : s.record? h = some r) (hl : r.line = l) (parked : r.state = .parked)
    (up : s.lineIsUp l = true) : (s.forHandles (State.upVisit l)).record? h = some { r with
      state := .waiting, cause := some .lineUp, timer := none
      changes := recorded r.changes kindState (s.profileOf r.profile) } := by
  have requeued : Record.requeued s.env .lineUp r = { r with
      state := .waiting, cause := some .lineUp, timer := none
      changes := recorded r.changes kindState (s.profileOf r.profile) } := by
    have isUp : s.env.up r.line = true := hl ▸ up
    simp only [Record.requeued_eq, isUp, if_true]
    rfl
  refine State.record?_of_body _ ?_
  rw [State.slot_upVisits, s.body_of_record? hr, SlotBody.lineBecameUp, if_pos ⟨hl, parked⟩, requeued]

/-! ### One record at a lowered ceiling (R104, Table 6-9) -/

/-- A record above the lowered ceiling of its line, by its state. -/
theorem State.ceilingVisit_above {c k : Step} (hr : s.record? h = some r) (hl : r.line = l) (agreed : r.agreed = some k)
    (above : c < k) : s.ceilingVisit l c h = match r.state with
      | .agreed => s.requeue h .lineCeiling
      | .holdover => s.requeue h .lineCeiling
      | .waiting => if s.arbiters[l].normal.contains h then s.classMove h .lineCeiling else s
      | .negotiating => s
      | .parked => s
      | .backoff => s
      | .failed => s
      | .retiring => s := by
  unfold State.ceilingVisit
  rw [hr]
  dsimp only
  rw [agreed]
  dsimp only
  refine (if_pos ⟨hl, above⟩).trans ?_
  cases r.state <;> rfl

theorem State.ceilingVisit_below {c : Step} (below : ∀ r k, s.record? h = some r → r.line = l → r.agreed = some k → k ≤ c) :
    s.ceilingVisit l c h = s := by
  unfold State.ceilingVisit
  split
  · rfl
  next r hr =>
    split
    · rfl
    next k agreed => exact if_neg fun ⟨hl, above⟩ => absurd (below r k hr hl agreed) (not_le.2 above)

theorem State.classMove_eq (hr : s.record? h = some r) (c : Cause) : s.classMove h c =
    (s.putRecord h { r with cause := some c }).modArbiter r.line (Arbiter.moveUrgent h) := by
  rw [State.classMove, hr]

end

/-- Settles O32: the line part of each frame, and the malformed frames that lose no records. -/
theorem lineFramesThatMoveNoRecord : Obligations.LineFramesThatMoveNoRecord := by
  refine ⟨fun s l hears => ⟨fun st state => ?_, exec_lineDown_notUp hears, fun k up higher => ?_⟩,
    fun s l hears => ⟨exec_malformedFrame_counts hears, fun run down => exec_malformedFrame_loses hears run down⟩⟩
  · rw [exec_alive hears, state, LineState.heard_eq]
  · rw [exec_lineUp hears, if_neg (not_not.2 up), if_neg (not_lt.2 higher)]
    refine congrArg Host.Outcome.next (State.modLine_congr ?_)
    exact Line.upFrame_eq s.now k s.lines[l]

/-- Settles O35: the visits of the PARKED records and of the records above a lowered ceiling, each before the hand-out. -/
theorem lineUpQueuesOrLowers : Obligations.LineUpQueuesOrLowers := by
  refine ⟨fun s l k hears => ?_, fun s l c h => ⟨fun r k hr hl agreed above => ?_, State.ceilingVisit_below⟩⟩
  · intro s1
    have line : s.modLine l (Line.upFrame s.now k) = s1 := State.modLine_congr (Line.upFrame_eq s.now k s.lines[l])
    rw [exec_lineUp hears, line]
    have up : s1.lineIsUp l = true := by
      rw [State.lineIsUp, State.line_modLine_same]
      rfl
    refine ⟨fun before => ⟨s1.forHandles (State.upVisit l), ?_, s1.upVisits_frame l, fun j hj => ?_, ?_, fun h => ⟨?_, ?_⟩⟩,
      fun before lower => ?_⟩
    · rw [if_pos before]
      rfl
    · exact ((State.local_forHandles (State.local_upVisit l)).others j hj).2
    · exact State.arbiter_foldl_upVisit (s := s1) _ (List.nodup_finRange 256) up
    · exact State.slot_upVisits_other (s := s1)
    · intro r hr hl parked
      exact ⟨(s1.moves_upVisits (g := True) l).epoch h, State.record?_upVisits_parked (s := s1) hr hl parked up⟩
    · rw [if_neg (not_not.2 before), if_pos lower]
      rfl
  · rw [State.ceilingVisit_above hr hl agreed above]
    refine ⟨fun state => ?_, fun state normal => ?_, fun state absent => ?_, fun state => ?_⟩
    · rcases state with state | state <;> simp only [state]
    · simp only [state]
      rw [if_pos (List.contains_iff_mem.2 normal), State.classMove_eq hr, ← hl, ← state]
      rfl
    · simp only [state]
      rw [if_neg (mt List.contains_iff_mem.1 absent)]
    · rcases state with state | state | state | state | state <;> simp only [state]

end Sys2Proof.Machine
end


section
/-! Frames, queries and answers as bytes: they are read back, and a damaged byte is found (R62, R140, R171, R172). -/

namespace Sys2Proof.Machine

/-! ### The check byte (R62, R140) -/

theorem checkByte_four (b0 b1 b2 b3 : Byte) : checkByte [b0, b1, b2, b3] = ~~~(b0 + b1 + b2 + b3) := by
  simp [checkByte]

/-- One damaged byte of five never agrees with the check byte: it changes one summand, or the check byte itself (R62). -/
theorem checkByte_damaged {b0 b1 b2 b3 b : Byte} {i : Fin 5} {c0 c1 c2 c3 c : Byte}
    (damaged : [b0, b1, b2, b3, checkByte [b0, b1, b2, b3]][i.val]? ≠ some b)
    (e : [b0, b1, b2, b3, checkByte [b0, b1, b2, b3]].set i b = [c0, c1, c2, c3, c]) : c ≠ checkByte [c0, c1, c2, c3] := by
  simp only [checkByte_four] at *
  fin_cases i
  all_goals
    simp at damaged e
    obtain ⟨rfl, rfl, rfl, rfl, rfl⟩ := e
    simpa [eq_comm] using damaged

/-- A word is the two fields it is cut into. -/
theorem append_fields {a b : Nat} (x : BitVec (a + b)) : x.extractLsb' b a ++ x.extractLsb' 0 b = x := by
  rw [BitVec.extractLsb'_append_extractLsb'_eq_extractLsb' (Nat.zero_add b).symm]
  simp

/-! ### Frames (R62, R171) -/

theorem frameBytes_eq (type : BitVec 4) (st : Station) (payload : BitVec 16) : ∃ b0 b1 b2 b3 : Byte,
    frameBytes type st payload = [b0, b1, b2, b3, checkByte [b0, b1, b2, b3]] ∧
    b0.extractLsb' 4 4 = type ∧ b0.extractLsb' 0 4 ++ b1 = st ∧ b2 = payload.extractLsb' 8 8 ∧ b3 = payload.extractLsb' 0 8 := by
  refine ⟨_, _, _, _, rfl, BitVec.extractLsb'_append_eq_left, ?_, rfl, rfl⟩
  rw [BitVec.extractLsb'_append_eq_right]
  exact append_fields (a := 4) (b := 8) st

theorem classifyFrame_frameBytes (l : LineId) (type : BitVec 4) (st : Station) (payload : BitVec 16) :
    classifyFrame l (frameBytes type st payload) =
      (upwardFrame l type st (payload.extractLsb' 8 8) (payload.extractLsb' 0 8)).getD (.malformedFrame l) := by
  obtain ⟨b0, b1, b2, b3, e, htype, hst, hhi, hlo⟩ := frameBytes_eq type st payload
  rw [e, classifyFrame, if_pos rfl, htype, hst, hhi, hlo]

/-- The bytes of an upward frame are bytes of a frame (Table 13-3). -/
theorem upwardBytes_eq {c : Instr} {bytes : List Byte} (e : upwardBytes c = some bytes) :
    ∃ type st payload, bytes = frameBytes type st payload := by
  unfold upwardBytes at e
  split at e
  case h_11 => cases e
  all_goals
    cases e
    exact ⟨_, _, _, rfl⟩

theorem stepOfByte_payload (k : Step) :
    stepOfByte ((stepPayload k).extractLsb' 0 8) = some k ∧ (stepPayload k).extractLsb' 8 8 = 0 ∧
      stepOfByte ((0x0100 ||| stepPayload k : BitVec 16).extractLsb' 0 8) = some k ∧
      (0x0100 ||| stepPayload k : BitVec 16).extractLsb' 8 8 = 1 := by
  revert k
  decide

theorem upwardFrame_capability (l : LineId) (st : Station) (mask : StepSet) :
    upwardFrame l 3 st ((mask.setWidth 16).extractLsb' 8 8) ((mask.setWidth 16).extractLsb' 0 8) = some (.capability l st mask) := by
  have high : ((mask.setWidth 16 : BitVec 16).extractLsb' 8 8).toNat < 16 := by
    simp [BitVec.extractLsb'_toNat, Nat.shiftRight_eq_div_pow]
    omega
  have whole : ((mask.setWidth 16).extractLsb' 8 8 ++ (mask.setWidth 16).extractLsb' 0 8 : BitVec 16) = mask.setWidth 16 :=
    append_fields (a := 8) (b := 8) _
  show (if _ then _ else _) = _
  rw [if_pos high, whole]
  simp

theorem upwardFrame_quality (l : LineId) (st : Station) (v : BitVec 8) :
    upwardFrame l 7 st ((v.setWidth 16).extractLsb' 8 8) ((v.setWidth 16).extractLsb' 0 8) = some (.quality l st v) := by
  show some (Instr.quality l st _) = _
  refine congrArg (fun lo => some (Instr.quality l st lo)) (BitVec.eq_of_toNat_eq ?_)
  rw [BitVec.extractLsb'_toNat, BitVec.toNat_setWidth_of_le (by decide), Nat.shiftRight_zero, Nat.mod_eq_of_lt v.isLt]

/-- An upward frame is read back from its bytes (R62). -/
theorem classifyFrame_upwardBytes {c : Instr} {l : LineId} {bytes : List Byte} (frame : frameLine? c = some l)
    (e : upwardBytes c = some bytes) : classifyFrame l bytes = c := by
  cases c
  case lineUp m k =>
    cases frame
    cases e
    obtain ⟨-, -, low, high⟩ := stepOfByte_payload k
    rw [classifyFrame_frameBytes, high]
    show (Option.map _ (stepOfByte _)).getD _ = _
    rw [low]
    rfl
  case lineDown m => cases frame; cases e; rw [classifyFrame_frameBytes]; rfl
  case alive m => cases frame; cases e; rw [classifyFrame_frameBytes]; rfl
  case capability m st mask => cases frame; cases e; rw [classifyFrame_frameBytes, upwardFrame_capability]; rfl
  case outcome m st w => cases frame; cases w <;> cases e <;> rw [classifyFrame_frameBytes] <;> rfl
  case confirm m st k =>
    cases frame
    cases e
    rw [classifyFrame_frameBytes]
    show (Option.map _ (stepOfByte _)).getD _ = _
    rw [(stepOfByte_payload k).1]
    rfl
  case carrier m st w => cases frame; cases w <;> cases e <;> rw [classifyFrame_frameBytes] <;> rfl
  case quality m st v => cases frame; cases e; rw [classifyFrame_frameBytes, upwardFrame_quality]; rfl
  all_goals cases e

/-- A frame with one damaged byte is malformed (R62). -/
theorem classifyFrame_damaged {c : Instr} {l : LineId} {bytes : List Byte} {i : Fin 5} {b : Byte} (e : upwardBytes c = some bytes)
    (damaged : bytes[i.val]? ≠ some b) : classifyFrame l (bytes.set i b) = .malformedFrame l := by
  obtain ⟨type, st, payload, rfl⟩ := upwardBytes_eq e
  obtain ⟨b0, b1, b2, b3, bytes, -⟩ := frameBytes_eq type st payload
  rw [bytes] at damaged ⊢
  unfold classifyFrame
  split
  next c0 c1 c2 c3 c set => exact if_neg (checkByte_damaged damaged set)
  · rfl

/-! ### Queries (R140, R172) -/

theorem queryBytes_eq (code tag : BitVec 4) (arg : BitVec 24) : ∃ b0 b1 b2 b3 : Byte,
    queryBytes code tag arg = [b0, b1, b2, b3, checkByte [b0, b1, b2, b3]] ∧
    b0.extractLsb' 4 4 = code ∧ b0.extractLsb' 0 4 = tag ∧ b1 ++ b2 ++ b3 = arg := by
  refine ⟨_, _, _, _, rfl, BitVec.extractLsb'_append_eq_left, BitVec.extractLsb'_append_eq_right, ?_⟩
  rw [BitVec.extractLsb'_append_extractLsb'_eq_extractLsb' (show 16 = 8 + 8 from rfl)]
  exact append_fields (a := 16) (b := 8) arg

/-- Bytes with the right check byte are the query of their code, tag and argument field (R140). -/
theorem classifyQuery_queryBytes (code tag : BitVec 4) (arg : BitVec 24) : classifyQuery (queryBytes code tag arg) =
    match code with
    | 1 => if (arg.extractLsb' 16 4).toNat < 8 then .lookupFind tag (arg.extractLsb' 16 4) (arg.extractLsb' 0 12) else .badQuery tag
    | 2 => if (arg.extractLsb' 12 9).toNat < 256 then .peek tag (arg.extractLsb' 12 9) (arg.extractLsb' 0 12) else .badQuery tag
    | 3 => if (arg.extractLsb' 12 9).toNat < 256 then .hold tag (arg.extractLsb' 12 9) (arg.extractLsb' 0 12) else .badQuery tag
    | 4 => if (arg.extractLsb' 12 9).toNat < 256 then .release tag (arg.extractLsb' 12 9) (arg.extractLsb' 0 12) else .badQuery tag
    | _ => .badQuery tag := by
  obtain ⟨b0, b1, b2, b3, e, hcode, htag, harg⟩ := queryBytes_eq code tag arg
  subst hcode htag harg
  rw [e]
  exact if_pos rfl

theorem findArg_fields (line : BitVec 4) (st : Station) :
    ((0 : BitVec 4) ++ line ++ (0 : BitVec 4) ++ st : BitVec 24).extractLsb' 16 4 = line ∧
      ((0 : BitVec 4) ++ line ++ (0 : BitVec 4) ++ st : BitVec 24).extractLsb' 0 12 = st := by
  obtain ⟨low, -, field, -⟩ := fields_four (0 : BitVec 4) line (0 : BitVec 4) st
  exact ⟨field, low⟩

theorem namedArg_fields (h : BitVec 9) (e : Epoch) : ((0 : BitVec 3) ++ h ++ e : BitVec 24).extractLsb' 12 9 = h ∧
    ((0 : BitVec 3) ++ h ++ e : BitVec 24).extractLsb' 0 12 = e := by
  obtain ⟨low, field, -⟩ := fields_three (0 : BitVec 3) h e
  exact ⟨field, low⟩

/-- A well-formed query is read back from its bytes (R140). -/
theorem classifyQuery_lookupBytes {c : Instr} {bytes : List Byte} (ok : c.wellFormed = true) (e : lookupBytes c = some bytes) :
    bytes.length = 5 ∧ classifyQuery bytes = c := by
  cases c
  case lookupFind tag line st =>
    cases e
    obtain ⟨field, low⟩ := findArg_fields line st
    refine ⟨rfl, ?_⟩
    rw [classifyQuery_queryBytes, field, low]
    exact if_pos (of_decide_eq_true ok)
  case peek tag h epoch | hold tag h epoch | release tag h epoch =>
    cases e
    obtain ⟨field, low⟩ := namedArg_fields h epoch
    refine ⟨rfl, ?_⟩
    rw [classifyQuery_queryBytes, field, low]
    exact if_pos (of_decide_eq_true ok)
  all_goals cases e

/-! ### Downward frames, answers and lanes (R171, R172) -/

/-- The fields of a frame stand in the places of Table 13-2. -/
theorem frameBytes_fields (type : BitVec 4) (st : Station) (payload : BitVec 16) : ∃ b0 b1 b2 b3 : Byte,
    frameBytes type st payload = [b0, b1, b2, b3, ~~~(b0 + b1 + b2 + b3)] ∧
    (b0.extractLsb' 4 4).toNat = type.toNat ∧ b0.extractLsb' 0 4 ++ b1 = st ∧ b2 ++ b3 = payload := by
  obtain ⟨b0, b1, b2, b3, e, htype, hst, rfl, rfl⟩ := frameBytes_eq type st payload
  rw [checkByte_four] at e
  exact ⟨b0, b1, _, _, e, congrArg BitVec.toNat htype, hst, append_fields (a := 8) (b := 8) payload⟩

theorem stepPayload_toNat (k : Step) : (stepPayload k).toNat = k.val + 1 := by
  revert k
  decide

theorem checkByte_eight (b0 b1 b2 b3 b4 b5 b6 b7 : Byte) :
    checkByte [b0, b1, b2, b3, b4, b5, b6, b7] = ~~~(b0 + b1 + b2 + b3 + b4 + b5 + b6 + b7) := by
  simp [checkByte]

/-- The byte of OVERRUN and the hold count (Table 13-5). -/
theorem overrunByte_fields (o : Bool) (n : BitVec 4) : (BitVec.ofBool o ++ (0 : BitVec 3) ++ n : Byte).getLsbD 7 = o ∧
    (BitVec.ofBool o ++ (0 : BitVec 3) ++ n : Byte).extractLsb' 4 3 = 0 ∧
    (BitVec.ofBool o ++ (0 : BitVec 3) ++ n : Byte).extractLsb' 0 4 = n := by
  obtain ⟨count, zero, overrun⟩ := fields_three (BitVec.ofBool o) (0 : BitVec 3) n
  exact ⟨getLsbD_of_field overrun, zero, count⟩

/-- Without record content the byte of OVERRUN is the one of no holds (R172). -/
theorem overrunByte_zero (o : Bool) : (BitVec.ofBool o ++ (0 : BitVec 7) : Byte) = BitVec.ofBool o ++ (0 : BitVec 3) ++ (0 : BitVec 4) := by
  revert o
  decide

theorem laneBits_get (b : Byte) (i : Fin 8) : (laneBits b)[i.val + 1]? = some (b.getLsbD i) := by
  simp [laneBits, List.getElem?_append_left]

/-- The bytes of an answer without record content (R172). -/
theorem Answer.bytes_none {a : Answer} (content : a.content = none) : a.bytes =
    [a.status.code ++ a.tag, BitVec.ofBool a.overrun ++ (0 : BitVec 3) ++ (0 : BitVec 4), 0, 0, 0, 0, 0, 0,
      ~~~((a.status.code ++ a.tag) + (BitVec.ofBool a.overrun ++ (0 : BitVec 3) ++ (0 : BitVec 4)) + 0 + 0 + 0 + 0 + 0 + 0)] := by
  rw [← checkByte_eight, ← overrunByte_zero, Answer.bytes, content]
  rfl

/-- The bytes of an answer with record content (Table 13-5). -/
theorem Answer.bytes_some {a : Answer} {c : AnswerContent} (content : a.content = some c) :
    ∃ b0 b1 b2 b3 b4 b5 b6 b7 : Byte,
      a.bytes = [b0, b1, b2, b3, b4, b5, b6, b7, ~~~(b0 + b1 + b2 + b3 + b4 + b5 + b6 + b7)] ∧
      b0 = a.status.code ++ a.tag ∧ b1 = BitVec.ofBool a.overrun ++ (0 : BitVec 3) ++ BitVec.ofNat 4 c.holds ∧
      b2 = BitVec.ofNat 8 c.handle.val ∧ b3 = (0 : BitVec 1) ++ c.state.code ++ c.epoch.extractLsb' 8 4 ∧
      b4 = c.epoch.extractLsb' 0 8 ∧ b5 = BitVec.ofNat 4 (stepCode c.agreed) ++ (0 : BitVec 4) ∧
      b6 = c.generation.extractLsb' 8 8 ∧ b7 = c.generation.extractLsb' 0 8 := by
  refine ⟨_, _, _, _, _, _, _, _, ?_, rfl, rfl, rfl, rfl, rfl, rfl, rfl, rfl⟩
  rw [← checkByte_eight, Answer.bytes, content]
  rfl

/-- Settles O50: the layouts field by field, the check byte against one damaged byte, and the levels of a byte. -/
theorem bytesReadBack : Obligations.BytesReadBack := by
  refine ⟨fun c l bytes frame e => ⟨?_, classifyFrame_upwardBytes frame e⟩, fun c l bytes i b e => classifyFrame_damaged e,
    fun c bytes => classifyQuery_lookupBytes, fun f => ?_, fun a => ?_,
    fun b => ⟨laneBits_length b, rfl, laneBits_get b, rfl⟩, rfl, laneLevels_cons⟩
  · obtain ⟨type, st, payload, rfl⟩ := upwardBytes_eq e
    exact frameBytes_length type st payload
  · cases f with
    | negotiate st offer =>
      obtain ⟨b0, b1, b2, b3, bytes, type, station, payload⟩ := frameBytes_fields 8 st (offer.setWidth 16)
      refine ⟨b0, b1, b2, b3, bytes, ?_, nofun, nofun, nofun⟩
      rintro _ _ ⟨⟩
      exact ⟨type, station, payload⟩
    | order st k =>
      obtain ⟨b0, b1, b2, b3, bytes, type, station, payload⟩ := frameBytes_fields 9 st (stepPayload k)
      refine ⟨b0, b1, b2, b3, bytes, nofun, ?_, nofun, nofun⟩
      rintro _ _ ⟨⟩
      exact ⟨type, station, (congrArg BitVec.toNat payload).trans (stepPayload_toNat k)⟩
    | abandon st =>
      obtain ⟨b0, b1, b2, b3, bytes, type, station, payload⟩ := frameBytes_fields 10 st 0
      refine ⟨b0, b1, b2, b3, bytes, nofun, nofun, ?_, nofun⟩
      rintro _ ⟨⟩
      exact ⟨type, station, payload⟩
    | reset =>
      obtain ⟨b0, b1, b2, b3, bytes, type, station, payload⟩ := frameBytes_fields 11 0 0
      exact ⟨b0, b1, b2, b3, bytes, nofun, nofun, nofun, fun _ => ⟨type, station, payload⟩⟩
  · cases content : a.content with
    | none =>
      obtain ⟨overrun, zero, count⟩ := overrunByte_fields a.overrun 0
      exact ⟨_, _, _, _, _, _, _, _, Answer.bytes_none content, BitVec.extractLsb'_append_eq_left,
        BitVec.extractLsb'_append_eq_right, overrun, zero, fun _ => ⟨count, rfl, rfl, rfl, rfl, rfl, rfl⟩, nofun⟩
    | some c =>
      obtain ⟨b0, b1, b2, b3, b4, b5, b6, b7, bytes, rfl, rfl, rfl, rfl, rfl, rfl, rfl, rfl⟩ := Answer.bytes_some content
      obtain ⟨overrun, zero, count⟩ := overrunByte_fields a.overrun (BitVec.ofNat 4 c.holds)
      obtain ⟨epochHigh, -, -⟩ := fields_three (0 : BitVec 1) c.state.code (c.epoch.extractLsb' 8 4)
      refine ⟨_, _, _, _, _, _, _, _, bytes, BitVec.extractLsb'_append_eq_left, BitVec.extractLsb'_append_eq_right, overrun, zero,
        nofun, ?_⟩
      rintro _ ⟨⟩
      refine ⟨fun most => ?_, toNat_field c.handle.isLt, ?_, ?_, ?_, BitVec.extractLsb'_append_eq_right,
        append_fields (a := 8) (b := 8) c.generation⟩
      · rw [count]
        exact toNat_field (Nat.lt_succ_of_le most)
      · rw [show ((0 : BitVec 1) ++ c.state.code ++ c.epoch.extractLsb' 8 4 : Byte).extractLsb' 4 4 = (0 : BitVec 1) ++ c.state.code
          from BitVec.extractLsb'_append_eq_left]
        exact toNat_zero_append
      · rw [epochHigh]
        exact append_fields (a := 4) (b := 8) c.epoch
      · rw [BitVec.extractLsb'_append_eq_left]
        exact toNat_field (stepCode_lt c.agreed)

/-! ### Examples and codes (R170, R172, R173) -/

/-- Settles O51: the bytes and the codes are computed. -/
theorem exampleBytes : Obligations.ExampleBytes := by
  refine ⟨by decide, by decide, by decide, by decide, by decide, fun _ _ _ _ => rfl, rfl, fun _ => rfl, rfl, rfl, by decide, by decide⟩

end Sys2Proof.Machine
end


section
/-! The transmit lanes: the queue of frames, and the levels of a frame and of an answer bit time by bit time (R74, R137, R171, R172). -/

namespace Sys2Proof.Machine

/-! ### The transmit queue (R74) -/

section
variable {s : State} {l : LineId}

/-- A line that stays as it is leaves the part as it is. -/
theorem State.modLine_self {f : Line → Line} (same : f s.lines[l] = s.lines[l]) : s.modLine l f = s := by
  unfold State.modLine
  rw [same]
  simp

theorem Line.beginFrame_cons {x : Line} {f : DownFrame} {rest : List DownFrame} (queue : x.txQueue = f :: rest) :
    x.beginFrame = { x with sending := some f, txSent := 0, txQueue := rest } := by
  rw [Line.beginFrame, queue]

theorem Line.beginFrame_nil {x : Line} (queue : x.txQueue = []) : x.beginFrame = { x with sending := none, txSent := 0 } := by
  rw [Line.beginFrame, queue]

/-- The next frame begins with its first bit time, whatever was sent of the frame before (R171). -/
theorem Line.beginFrame_txSent (x : Line) (n : Nat) : Line.beginFrame { x with txSent := n } = x.beginFrame := by
  unfold Line.beginFrame
  cases x.txQueue <;> rfl

theorem State.sendDown_room (room : s.lines[l].txQueue.length < 128) (f : DownFrame) :
    s.sendDown l f = s.modLine l fun ln => { ln with txQueue := ln.txQueue ++ [f] } :=
  State.modLine_congr (if_pos room)

theorem State.sendDown_full (full : 128 ≤ s.lines[l].txQueue.length) (f : DownFrame) :
    s.sendDown l f = s.modLine l fun ln => { ln with changes := ln.changes ||| lineKindFault } :=
  State.modLine_congr (if_neg (not_lt.2 full))

theorem exec_frameTransmission (running : s.running = true) (silent : s.lines[l].sending = none) :
    exec (.frameTransmission l) s = .next (s.modLine l Line.beginFrame) :=
  congrArg Host.Outcome.next (if_pos (by rw [running, silent]; rfl))

theorem exec_frameTransmissionComplete (running : s.running = true) (sends : s.lines[l].sending ≠ none) :
    exec (.frameTransmissionComplete l) s = .next (s.modLine l Line.beginFrame) :=
  congrArg Host.Outcome.next (if_pos (by rw [running, Option.isSome_iff_ne_none.2 sends]; rfl))

/-! ### The bit times of a frame (R74, R171) -/

/-- Within its bytes a lane drives the level that is next (R171). -/
theorem txLevel_next {bytes : List Byte} {sent : Nat} (within : sent < 10 * bytes.length) :
    (laneLevels bytes)[sent]? = some (txLevel bytes sent) := by
  rw [← laneLevels_length] at within
  rw [txLevel, List.getD_eq_getElem?_getD, List.getElem?_eq_getElem within]
  rfl

theorem State.reportTx_eq {f : DownFrame} (running : s.running = true) (sends : s.lines[l].sending = some f) :
    s.reportTx l = txLevel f.bytes s.lines[l].txSent := by
  rw [State.reportTx, sends, running]
  rfl

theorem State.reportTxNext_sends (running : s.running = true) (sends : s.lines[l].sending ≠ none) (more : s.lines[l].txSent < 49) :
    s.reportTxNext l = .next (s.modLine l fun ln => { ln with txSent := ln.txSent + 1 }) := by
  obtain ⟨none, -⟩ | ⟨f, -, ⟨held, -⟩ | ⟨-, -, e⟩ | ⟨-, last, -⟩⟩ := s.reportTxNext_cases l
  · exact absurd none sends
  · exact absurd (held.symm.trans running) (by decide)
  · exact e
  · omega

theorem State.reportTxNext_completes (running : s.running = true) (sends : s.lines[l].sending ≠ none) (last : 49 ≤ s.lines[l].txSent) :
    s.reportTxNext l = exec (.frameTransmissionComplete l) s := by
  obtain ⟨none, -⟩ | ⟨f, -, ⟨held, -⟩ | ⟨-, more, -⟩ | ⟨-, -, e⟩⟩ := s.reportTxNext_cases l
  · exact absurd none sends
  · exact absurd (held.symm.trans running) (by decide)
  · omega
  · exact e

theorem State.reportTxNexts_succ (s : State) (l : LineId) (n : Nat) :
    s.reportTxNexts l (n + 1) = andThen (s.reportTxNexts l n) fun t => t.reportTxNext l := by
  rw [State.reportTxNexts, List.range_succ, List.foldl_append]
  rfl

/-- The bit times of a frame from its first one (R171). -/
theorem State.reportTxNexts_sends (running : s.running = true) (sends : s.lines[l].sending ≠ none) (first : s.lines[l].txSent = 0)
    {n : Nat} (within : n < 50) : s.reportTxNexts l n = .next (s.modLine l fun ln => { ln with txSent := n }) := by
  induction n with
  | zero => exact congrArg Host.Outcome.next (State.modLine_self (by rw [← first])).symm
  | succ n ih =>
    rw [State.reportTxNexts_succ, ih (by omega)]
    refine (State.reportTxNext_sends (s := s.modLine l _) running ?_ ?_).trans ?_
    · rw [State.line_modLine_same]
      exact sends
    · rw [State.line_modLine_same]
      show n < 49
      omega
    · rw [State.modLine_modLine]

/-- The fiftieth bit time completes the frame (R74, R171). -/
theorem State.reportTxNexts_completes (running : s.running = true) (sends : s.lines[l].sending ≠ none)
    (first : s.lines[l].txSent = 0) : s.reportTxNexts l 50 = exec (.frameTransmissionComplete l) s := by
  have sent : (s.modLine l fun ln => { ln with txSent := 49 }).lines[l].sending ≠ none := by
    rw [State.line_modLine_same]
    exact sends
  rw [State.reportTxNexts_succ, State.reportTxNexts_sends running sends first (by decide)]
  refine (State.reportTxNext_completes (s := s.modLine l _) running sent ?_).trans ?_
  · rw [State.line_modLine_same]
  · rw [exec_frameTransmissionComplete (s := s.modLine l _) running sent, exec_frameTransmissionComplete running sends,
      State.modLine_modLine]
    simp only [Line.beginFrame_txSent]

/-! ### The bit times of an answer (R137, R172) -/

theorem State.lookupTx_eq {a : Answer} (running : s.running = true) (answers : s.lookup.answer = some a) :
    s.lookupTx = txLevel a.bytes s.lookup.txSent := by
  rw [State.lookupTx, answers, running]
  rfl

theorem State.lookupTxNext_sends (running : s.running = true) (answers : s.lookup.answer ≠ none) (more : s.lookup.txSent < 89) :
    s.lookupTxNext = .next { s with lookup := { s.lookup with txSent := s.lookup.txSent + 1 } } := by
  obtain ⟨none, -⟩ | ⟨a, -, ⟨held, -⟩ | ⟨-, -, e⟩ | ⟨-, last, -⟩⟩ := s.lookupTxNext_cases
  · exact absurd none answers
  · exact absurd (held.symm.trans running) (by decide)
  · exact e
  · omega

theorem State.lookupTxNext_completes (running : s.running = true) (answers : s.lookup.answer ≠ none) (last : 89 ≤ s.lookup.txSent) :
    s.lookupTxNext = exec .answerSent s := by
  obtain ⟨none, -⟩ | ⟨a, -, ⟨held, -⟩ | ⟨-, more, -⟩ | ⟨-, -, e⟩⟩ := s.lookupTxNext_cases
  · exact absurd none answers
  · exact absurd (held.symm.trans running) (by decide)
  · omega
  · exact e

theorem State.lookupTxNexts_succ (s : State) (n : Nat) : s.lookupTxNexts (n + 1) = andThen (s.lookupTxNexts n) State.lookupTxNext := by
  rw [State.lookupTxNexts, List.range_succ, List.foldl_append]
  rfl

/-- The bit times of an answer from its first one (R172). -/
theorem State.lookupTxNexts_sends (running : s.running = true) (answers : s.lookup.answer ≠ none) (first : s.lookup.txSent = 0)
    {n : Nat} (within : n < 90) : s.lookupTxNexts n = .next { s with lookup := { s.lookup with txSent := n } } := by
  induction n with
  | zero =>
    have same : ({ s with lookup := { s.lookup with txSent := 0 } } : State) = s := by rw [← first]
    exact congrArg Host.Outcome.next same.symm
  | succ n ih =>
    rw [State.lookupTxNexts_succ, ih (by omega)]
    exact State.lookupTxNext_sends (s := { s with lookup := { s.lookup with txSent := n } }) running answers
      (show n < 89 by omega)

/-- The ninetieth bit time ends the answer (R137, R172). -/
theorem State.lookupTxNexts_completes (running : s.running = true) (answers : s.lookup.answer ≠ none) (first : s.lookup.txSent = 0) :
    s.lookupTxNexts 90 = exec .answerSent s := by
  rw [State.lookupTxNexts_succ, State.lookupTxNexts_sends running answers first (by decide)]
  refine (State.lookupTxNext_completes (s := { s with lookup := { s.lookup with txSent := 89 } }) running answers (le_refl 89)).trans ?_
  show execAnswerSent _ = execAnswerSent s
  have held : ({ s with lookup := { s.lookup with txSent := 89 } } : State).running = s.running := rfl
  rw [execAnswerSent, execAnswerSent, held, running]
  rfl

end

/-- Settles O36: the queue by its two ends, and the bit times of a frame and of an answer one after another. -/
theorem transmitLaneSendsInOrder : Obligations.TransmitLaneSendsInOrder := by
  refine ⟨fun s l => ⟨fun f room => State.sendDown_room room f, fun f full => State.sendDown_full full f,
    fun running f rest queue => ⟨fun silent => ?_, fun sends => ?_⟩, fun running queue sends => ?_⟩, fun s running =>
    ⟨fun l f sends => ?_, fun l silent => ?_, fun a answers => ?_, fun idle => ?_⟩⟩
  · rw [exec_frameTransmission running silent]
    exact congrArg Host.Outcome.next (State.modLine_congr (Line.beginFrame_cons queue))
  · rw [exec_frameTransmissionComplete running sends]
    exact congrArg Host.Outcome.next (State.modLine_congr (Line.beginFrame_cons queue))
  · rw [exec_frameTransmissionComplete running sends]
    exact congrArg Host.Outcome.next (State.modLine_congr (Line.beginFrame_nil queue))
  · have busy : s.lines[l].sending ≠ none := by rw [sends]; exact nofun
    refine ⟨fun within => ?_, fun n within first => State.reportTxNexts_sends running busy first within,
      State.reportTxNexts_completes running busy⟩
    rw [State.reportTx_eq running sends]
    exact txLevel_next (by rw [DownFrame.bytes_length]; exact within)
  · rw [State.reportTx, State.reportTxNext, silent]
    exact ⟨rfl, rfl⟩
  · have busy : s.lookup.answer ≠ none := by rw [answers]; exact nofun
    refine ⟨fun within => ?_, fun n within first => State.lookupTxNexts_sends running busy first within,
      State.lookupTxNexts_completes running busy⟩
    rw [State.lookupTx_eq running answers]
    exact txLevel_next (by rw [Answer.bytes_length]; exact within)
  · rw [State.lookupTx, State.lookupTxNext, idle]
    exact ⟨rfl, rfl⟩

end Sys2Proof.Machine
end


section
/-! The receivers: levels cut into bytes and idles, these into frames and queries, and the first idle after a reset (R62, R136, R138,
R140, R169, R171, R172). -/

namespace Sys2Proof.Machine

/-! ### The first idle (R169) -/

section
variable {s t : State} {l : LineId} {c : Instr} {tag : Tag}

theorem State.hears_eq_false : s.hears l = false ↔ s.running = false ∨ s.lines[l].rxWaitsIdle = true := by
  rw [State.hears, Bool.and_eq_false_iff, Bool.not_eq_false']

/-- A frame that its receiver does not take changes nothing (R169). -/
theorem exec_frame_deaf (frame : frameLine? c = some l) (deaf : s.hears l = false) : exec c s = .next s := by
  have untaken : ¬s.hears l = true := by rw [deaf]; decide
  cases c
  case lineUp | lineDown | alive | capability | outcome | confirm | carrier | quality | malformedFrame =>
    cases frame
    exact congrArg Host.Outcome.next (if_neg untaken)
  all_goals cases frame

/-- Every query of the lookup link is applied, discarded or not taken by one rule (R136). -/
theorem exec_query (query : queryTag? c = some tag) : ∃ apply, ∀ s, exec c s = .next (s.query tag apply) := by
  cases c
  case lookupFind | peek | hold | release | badQuery =>
    cases query
    exact ⟨_, fun _ => rfl⟩
  all_goals cases query

theorem exec_query_deaf (query : queryTag? c = some tag) (deaf : s.running = false ∨ s.lookup.rxWaitsIdle = true) :
    exec c s = .next s := by
  obtain ⟨apply, e⟩ := exec_query query
  obtain ⟨-, same⟩ | ⟨running, found, -⟩ | ⟨running, found, -⟩ := s.query_cases tag apply
  · rw [e, same]
  all_goals
    rw [running, found] at deaf
    rcases deaf with c | c <;> cases c

/-- A query that a BUSY port receives is discarded (R138). -/
theorem exec_query_busy (query : queryTag? c = some tag) (running : s.running = true) (found : s.lookup.rxWaitsIdle = false)
    (busy : s.lookup.answer ≠ none) : exec c s = .next s.discardQuery := by
  obtain ⟨apply, e⟩ := exec_query query
  obtain ⟨deaf, -⟩ | ⟨-, -, -, discards⟩ | ⟨-, -, idle, -⟩ := s.query_cases tag apply
  · rw [running, found] at deaf
    rcases deaf with c | c <;> cases c
  · rw [e, discards]
  · exact absurd idle busy

theorem exec_idle_report (running : s.running = true) : exec (.idleOfTwoByteTimes (.report l)) s =
    .next (s.modLine l fun ln => { ln with rxWaitsIdle := false }) :=
  congrArg Host.Outcome.next (if_neg (by rw [running]; decide))

theorem exec_idle_lookup (running : s.running = true) : exec (.idleOfTwoByteTimes .lookup) s =
    .next { s with lookup := { s.lookup with rxWaitsIdle := false } } :=
  congrArg Host.Outcome.next (if_neg (by rw [running]; decide))

/-! ### Bytes of a report link (R62) -/

theorem State.hears_modLine {f : Line → Line} (same : (f s.lines[l]).rxWaitsIdle = s.lines[l].rxWaitsIdle) :
    (s.modLine l f).hears l = s.hears l := by
  rw [State.hears, State.line_modLine_same, same]
  rfl

theorem State.reportByte_deaf (deaf : s.hears l = false) (b : Byte) : s.reportByte l b = .next s := by
  obtain ⟨-, e⟩ | ⟨hears, -⟩ | ⟨hears, -⟩ := s.reportByte_cases l b
  · exact e
  all_goals exact absurd (hears.symm.trans deaf) (by decide)

theorem State.reportByte_joins (hears : s.hears l = true) (short : s.lines[l].rxBytes.length < 4) (b : Byte) :
    s.reportByte l b = .next (s.modLine l fun ln => { ln with rxBytes := s.lines[l].rxBytes ++ [b] }) := by
  obtain ⟨deaf, -⟩ | ⟨-, -, e⟩ | ⟨-, full, -⟩ := s.reportByte_cases l b
  · exact absurd (hears.symm.trans deaf) (by decide)
  · exact e
  · omega

theorem State.reportByte_completes (hears : s.hears l = true) (full : 4 ≤ s.lines[l].rxBytes.length) (b : Byte) :
    s.reportByte l b = exec (classifyFrame l (s.lines[l].rxBytes ++ [b])) (s.modLine l fun ln => { ln with rxBytes := [] }) := by
  obtain ⟨deaf, -⟩ | ⟨-, short, -⟩ | ⟨-, -, e⟩ := s.reportByte_cases l b
  · exact absurd (hears.symm.trans deaf) (by decide)
  · omega
  · exact e

theorem State.reportIdle_first (deaf : s.hears l = false) : s.reportIdle l = exec (.idleOfTwoByteTimes (.report l)) s := by
  obtain ⟨-, e⟩ | ⟨hears, -⟩ | ⟨hears, -⟩ := s.reportIdle_cases l
  · exact e
  all_goals exact absurd (hears.symm.trans deaf) (by decide)

theorem State.reportIdle_between (hears : s.hears l = true) (empty : s.lines[l].rxBytes = []) : s.reportIdle l = .next s := by
  obtain ⟨deaf, -⟩ | ⟨-, -, e⟩ | ⟨-, begun, -⟩ := s.reportIdle_cases l
  · exact absurd (hears.symm.trans deaf) (by decide)
  · exact e
  · exact absurd empty begun

theorem State.reportIdle_ends (hears : s.hears l = true) (begun : s.lines[l].rxBytes ≠ []) : s.reportIdle l =
    exec (classifyFrame l s.lines[l].rxBytes) (s.modLine l fun ln => { ln with rxBytes := [] }) := by
  obtain ⟨deaf, -⟩ | ⟨-, empty, -⟩ | ⟨-, -, e⟩ := s.reportIdle_cases l
  · exact absurd (hears.symm.trans deaf) (by decide)
  · exact absurd empty begun
  · exact e

theorem State.reportBytes_append (s : State) (l : LineId) (bytes : List Byte) (b : Byte) :
    s.reportBytes l (bytes ++ [b]) = andThen (s.reportBytes l bytes) fun t => t.reportByte l b := by
  rw [State.reportBytes, List.foldl_append]
  rfl

/-- Fewer than five bytes wait for the rest of their frame (R62). -/
theorem State.reportBytes_short (hears : s.hears l = true) (empty : s.lines[l].rxBytes = []) {got : List Byte} (short : got.length < 5) :
    s.reportBytes l got = .next (s.modLine l fun ln => { ln with rxBytes := got }) := by
  induction got using List.reverseRecOn with
  | nil => exact congrArg Host.Outcome.next (State.modLine_self (by rw [← empty])).symm
  | append_singleton bytes b ih =>
    rw [List.length_append, List.length_singleton] at short
    rw [State.reportBytes_append, ih (by omega)]
    refine (State.reportByte_joins (s := s.modLine l _) ((State.hears_modLine rfl).trans hears) ?_ b).trans ?_
    · rw [State.line_modLine_same]
      show bytes.length < 4
      omega
    · rw [State.modLine_modLine, State.line_modLine_same]

/-- The fifth byte makes a frame (R62). -/
theorem State.reportBytes_frame (hears : s.hears l = true) (empty : s.lines[l].rxBytes = []) (b0 b1 b2 b3 b4 : Byte) :
    s.reportBytes l [b0, b1, b2, b3, b4] = exec (classifyFrame l [b0, b1, b2, b3, b4]) s := by
  show s.reportBytes l ([b0, b1, b2, b3] ++ [b4]) = _
  rw [State.reportBytes_append, State.reportBytes_short hears empty (got := [b0, b1, b2, b3]) (Nat.lt_succ_self 4)]
  refine (State.reportByte_completes (s := s.modLine l _) ((State.hears_modLine rfl).trans hears) ?_ b4).trans ?_
  · rw [State.line_modLine_same]
    exact le_refl 4
  · rw [State.modLine_modLine, State.line_modLine_same, State.modLine_self (by rw [← empty])]
    rfl

/-- An idle after fewer than five bytes makes them a malformed frame (R62). -/
theorem State.reportBytes_shortFrame (hears : s.hears l = true) (empty : s.lines[l].rxBytes = []) {got : List Byte}
    (short : got.length < 5) (begun : got ≠ []) :
    andThen (s.reportBytes l got) (fun t => t.reportIdle l) = exec (.malformedFrame l) s := by
  rw [State.reportBytes_short hears empty short]
  refine (State.reportIdle_ends (s := s.modLine l _) ((State.hears_modLine rfl).trans hears) ?_).trans ?_
  · rw [State.line_modLine_same]
    exact begun
  · rw [State.modLine_modLine, State.line_modLine_same, State.modLine_self (by rw [← empty])]
    exact congrArg (exec · s) (classifyFrame_short l got short)

/-! ### Bytes of the lookup link (R136, R140) -/

theorem State.hearsLookup_eq_false : s.hearsLookup = false ↔ s.running = false ∨ s.lookup.rxWaitsIdle = true := by
  rw [State.hearsLookup, Bool.and_eq_false_iff, Bool.not_eq_false']

theorem State.hearsLookup_eq_true : s.hearsLookup = true ↔ s.running = true ∧ s.lookup.rxWaitsIdle = false := by
  rw [State.hearsLookup, Bool.and_eq_true, Bool.not_eq_true']

theorem State.lookupByte_deaf (deaf : s.hearsLookup = false) (b : Byte) : s.lookupByte b = .next s :=
  if_pos (by rw [deaf]; rfl)

theorem State.lookupByte_joins (hears : s.hearsLookup = true) (short : s.lookup.rxBytes.length < 4) (b : Byte) :
    s.lookupByte b = .next { s with lookup := { s.lookup with rxBytes := s.lookup.rxBytes ++ [b] } } := by
  have fewer : (s.lookup.rxBytes ++ [b]).length < frameLength := by
    rw [List.length_append, List.length_singleton, frameLength]
    omega
  exact (if_neg (by rw [hears]; decide)).trans (if_pos fewer)

theorem State.lookupByte_completes (hears : s.hearsLookup = true) (full : 4 ≤ s.lookup.rxBytes.length) (b : Byte) :
    s.lookupByte b = exec (classifyQuery (s.lookup.rxBytes ++ [b])) { s with lookup := { s.lookup with rxBytes := [] } } := by
  have five : ¬(s.lookup.rxBytes ++ [b]).length < frameLength := by
    rw [List.length_append, List.length_singleton, frameLength]
    omega
  exact (if_neg (by rw [hears]; decide)).trans (if_neg five)

theorem State.lookupIdleBegins_first (deaf : s.hearsLookup = false) : s.lookupIdleBegins = exec (.idleOfTwoByteTimes .lookup) s :=
  if_pos (by rw [deaf]; rfl)

theorem State.lookupIdleBegins_between (hears : s.hearsLookup = true) (empty : s.lookup.rxBytes = []) :
    s.lookupIdleBegins = .next s := by
  rw [State.lookupIdleBegins, hears, empty]
  rfl

theorem State.lookupIdleBegins_ends (hears : s.hearsLookup = true) (begun : s.lookup.rxBytes ≠ []) : s.lookupIdleBegins =
    exec (classifyQuery s.lookup.rxBytes) { s with lookup := { s.lookup with rxBytes := [] } } := by
  rw [State.lookupIdleBegins, hears]
  cases bytes : s.lookup.rxBytes with
  | nil => exact absurd bytes begun
  | cons b rest => rfl

theorem State.lookupBytesArrive_append (s : State) (bytes : List Byte) (b : Byte) :
    s.lookupBytesArrive (bytes ++ [b]) = andThen (s.lookupBytesArrive bytes) fun t => t.lookupByte b := by
  rw [State.lookupBytesArrive, List.foldl_append]
  rfl

/-- A port with no bytes under way loses none with them. -/
theorem State.lookup_empty (empty : s.lookup.rxBytes = []) : ({ s with lookup := { s.lookup with rxBytes := [] } } : State) = s := by
  rw [← empty]

/-- Fewer than five bytes wait for the rest of their query (R136). -/
theorem State.lookupBytesArrive_short (hears : s.hearsLookup = true) (empty : s.lookup.rxBytes = []) {got : List Byte}
    (short : got.length < 5) : s.lookupBytesArrive got = .next { s with lookup := { s.lookup with rxBytes := got } } := by
  induction got using List.reverseRecOn with
  | nil => exact congrArg Host.Outcome.next (State.lookup_empty empty).symm
  | append_singleton bytes b ih =>
    rw [List.length_append, List.length_singleton] at short
    rw [State.lookupBytesArrive_append, ih (by omega)]
    exact State.lookupByte_joins (s := { s with lookup := { s.lookup with rxBytes := bytes } }) hears
      (show bytes.length < 4 by omega) b

/-- The fifth byte makes a query (R136). -/
theorem State.lookupBytesArrive_query (hears : s.hearsLookup = true) (empty : s.lookup.rxBytes = []) (b0 b1 b2 b3 b4 : Byte) :
    s.lookupBytesArrive [b0, b1, b2, b3, b4] = exec (classifyQuery [b0, b1, b2, b3, b4]) s := by
  show s.lookupBytesArrive ([b0, b1, b2, b3] ++ [b4]) = _
  rw [State.lookupBytesArrive_append, State.lookupBytesArrive_short hears empty (got := [b0, b1, b2, b3]) (Nat.lt_succ_self 4)]
  refine (State.lookupByte_completes (s := { s with lookup := { s.lookup with rxBytes := [b0, b1, b2, b3] } }) hears (le_refl 4)
    b4).trans ?_
  exact congrArg (exec _) (State.lookup_empty empty)

/-- Fewer than five bytes are no query, and bear the tag of the first (R140). -/
theorem classifyQuery_short {b : Byte} {rest : List Byte} (short : rest.length < 4) :
    classifyQuery (b :: rest) = .badQuery (b.extractLsb' 0 4) := by
  unfold classifyQuery
  split
  next five =>
    cases five
    exact absurd short (by simp)
  next e =>
    cases e
    rfl
  next e => cases e

theorem State.lookupBytesArrive_shortQuery (hears : s.hearsLookup = true) (empty : s.lookup.rxBytes = []) {b : Byte} {rest : List Byte}
    (short : rest.length < 4) :
    andThen (s.lookupBytesArrive (b :: rest)) State.lookupIdleBegins = exec (.badQuery (b.extractLsb' 0 4)) s := by
  rw [State.lookupBytesArrive_short hears empty (got := b :: rest) (Nat.succ_lt_succ short)]
  refine (State.lookupIdleBegins_ends (s := { s with lookup := { s.lookup with rxBytes := b :: rest } }) hears
    (List.cons_ne_nil b rest)).trans ?_
  exact congr (congrArg exec (classifyQuery_short short)) (State.lookup_empty empty)

/-- Bytes received as one query are a row of the lookup link (R136). -/
theorem queryTag?_classifyQuery (bytes : List Byte) : ∃ tag, queryTag? (classifyQuery bytes) = some tag := by
  unfold classifyQuery
  split
  · dsimp only
    split
    · split
      case h_5 => exact ⟨_, rfl⟩
      all_goals split <;> exact ⟨_, rfl⟩
    · exact ⟨_, rfl⟩
  · exact ⟨_, rfl⟩
  · exact ⟨_, rfl⟩

/-! ### Levels of a report link (R62, R171) -/

/-- A high level between bytes, before the first idle too, counts toward an idle (R62, R169). -/
theorem State.reportLevel_high (running : s.running = true) (between : s.lines[l].rxBits = none) : s.reportLevel l true =
    if s.lines[l].rxHigh < 20 ∧ min (s.lines[l].rxHigh + 1) 20 = 20 then
      (s.modLine l fun ln => { ln with rxHigh := min (s.lines[l].rxHigh + 1) 20 }).reportIdle l
    else .next (s.modLine l fun ln => { ln with rxHigh := min (s.lines[l].rxHigh + 1) 20 }) := by
  have rx : rxBit s.lines[l].rxWaitsIdle none true = (none, none) := by
    unfold rxBit
    split <;> rfl
  have bits : (s.modLine l fun ln => { ln with rxBits := none, rxHigh := min (s.lines[l].rxHigh + 1) idleBits }) =
      s.modLine l fun ln => { ln with rxHigh := min (s.lines[l].rxHigh + 1) idleBits } :=
    State.modLine_congr (by rw [← between])
  unfold State.reportLevel
  simp only [between, rx, running, Option.isNone_none, Bool.and_self, Bool.not_true, Bool.false_eq_true, if_true, if_false, bits]
  rfl

/-- A low level before the first idle only ends the count (R169). -/
theorem State.reportLevel_low (running : s.running = true) (waits : s.lines[l].rxWaitsIdle = true) (between : s.lines[l].rxBits = none) :
    s.reportLevel l false = .next (s.modLine l fun ln => { ln with rxHigh := 0 }) := by
  have bits : (s.modLine l fun ln => { ln with rxBits := none, rxHigh := 0 }) = s.modLine l fun ln => { ln with rxHigh := 0 } :=
    State.modLine_congr (by rw [← between])
  unfold State.reportLevel
  simp [waits, rxBit, running, idleBits, -Fin.getElem_fin, bits]

/-- A low level between bytes is a start bit (R171). -/
theorem State.reportLevel_start (running : s.running = true) (found : s.lines[l].rxWaitsIdle = false)
    (between : s.lines[l].rxBits = none) :
    s.reportLevel l false = .next (s.modLine l fun ln => { ln with rxBits := some [], rxHigh := 0 }) := by
  unfold State.reportLevel
  simp [found, between, rxBit, running, idleBits, -Fin.getElem_fin]

theorem State.reportLevel_data {bits : List Bool} (running : s.running = true) (found : s.lines[l].rxWaitsIdle = false)
    (under : s.lines[l].rxBits = some bits) (more : bits.length < 8) (b : Bool) :
    s.reportLevel l b = .next (s.modLine l fun ln => { ln with rxBits := some (bits ++ [b]), rxHigh := 0 }) := by
  unfold State.reportLevel
  simp [found, under, more, rxBit, running, idleBits, -Fin.getElem_fin]

/-- The bit after the eighth data bit completes the byte, high or low (R171). -/
theorem State.reportLevel_stop {bits : List Bool} (running : s.running = true) (found : s.lines[l].rxWaitsIdle = false)
    (under : s.lines[l].rxBits = some bits) (all : 8 ≤ bits.length) (b : Bool) : s.reportLevel l b =
    (s.modLine l fun ln => { ln with rxBits := none, rxHigh := 0 }).reportByte l (byteOfBits bits) := by
  unfold State.reportLevel
  simp [found, under, not_lt.2 all, rxBit, running, -Fin.getElem_fin]

theorem State.reportLevels_cons {b : Bool} (e : s.reportLevel l b = .next t) (rest : List Bool) :
    s.reportLevels l (b :: rest) = t.reportLevels l rest := by
  rw [State.reportLevels, List.foldl_cons]
  show rest.foldl _ (s.reportLevel l b) = _
  rw [e]
  rfl

theorem State.reportLevels_append (s : State) (l : LineId) (levels : List Bool) (b : Bool) :
    s.reportLevels l (levels ++ [b]) = andThen (s.reportLevels l levels) fun t => t.reportLevel l b := by
  rw [State.reportLevels, List.foldl_append]
  rfl

/-- The data bits that are left and a stop bit complete the byte under way (R171). -/
theorem State.reportLevels_data {bits rest : List Bool} (running : s.running = true) (found : s.lines[l].rxWaitsIdle = false)
    (under : s.lines[l].rxBits = some bits) (eight : bits.length + rest.length = 8) (stop : Bool) : s.reportLevels l (rest ++ [stop]) =
    (s.modLine l fun ln => { ln with rxBits := none, rxHigh := 0 }).reportByte l (byteOfBits (bits ++ rest)) := by
  induction rest generalizing s bits with
  | nil =>
    rw [List.append_nil]
    exact State.reportLevel_stop running found under (Nat.le_of_eq eight.symm) stop
  | cons b rest ih =>
    rw [List.length_cons] at eight
    rw [List.cons_append, State.reportLevels_cons (State.reportLevel_data running found under (by omega) b)]
    refine (ih (s := s.modLine l _) (bits := bits ++ [b]) running ?_ ?_ ?_).trans ?_
    · rw [State.line_modLine_same]
      exact found
    · rw [State.line_modLine_same]
    · rw [List.length_append, List.length_singleton]
      omega
    · rw [State.modLine_modLine, List.append_assoc]
      rfl

theorem laneBits_stop (b : Byte) (stop : Bool) :
    (laneBits b).set 9 stop = false :: ((List.finRange 8).map (fun i : Fin 8 => b.getLsbD i) ++ [stop]) := rfl

/-- The ten levels of a byte are received as the byte, whatever its stop bit (R171). -/
theorem State.reportLevels_byte (running : s.running = true) (found : s.lines[l].rxWaitsIdle = false)
    (between : s.lines[l].rxBits = none) (b : Byte) (stop : Bool) :
    s.reportLevels l ((laneBits b).set 9 stop) = (s.modLine l fun ln => { ln with rxHigh := 0 }).reportByte l b := by
  rw [laneBits_stop, State.reportLevels_cons (State.reportLevel_start running found between)]
  refine (State.reportLevels_data (s := s.modLine l _) (bits := []) running ?_ ?_ ?_ stop).trans ?_
  · rw [State.line_modLine_same]
    exact found
  · rw [State.line_modLine_same]
  · simp
  · rw [State.modLine_modLine, List.nil_append, byteOfBits_data]
    exact congrArg (State.reportByte · l b) (State.modLine_congr (by rw [← between]))

/-- High levels, fewer than twenty, are counted (R62). -/
theorem State.reportLevels_high (running : s.running = true) (between : s.lines[l].rxBits = none) (first : s.lines[l].rxHigh = 0)
    {n : Nat} (fewer : n < 20) : s.reportLevels l (List.replicate n true) = .next (s.modLine l fun ln => { ln with rxHigh := n }) := by
  induction n with
  | zero => exact congrArg Host.Outcome.next (State.modLine_self (by rw [← first])).symm
  | succ n ih =>
    have count : min (n + 1) 20 = n + 1 := by omega
    rw [List.replicate_succ', State.reportLevels_append, ih (by omega)]
    refine (State.reportLevel_high (s := s.modLine l _) running ?_).trans ?_
    · rw [State.line_modLine_same]
      exact between
    · rw [State.line_modLine_same, State.modLine_modLine]
      show (if n < 20 ∧ min (n + 1) 20 = 20 then _ else _) = _
      rw [if_neg (by omega)]
      show Host.Outcome.next (s.modLine l fun ln => { ln with rxHigh := min (n + 1) 20 }) = _
      rw [count]

/-- Twenty high levels are an idle (R62, R169). -/
theorem State.reportLevels_idle (running : s.running = true) (between : s.lines[l].rxBits = none) (first : s.lines[l].rxHigh = 0) :
    s.reportLevels l (List.replicate 20 true) = (s.modLine l fun ln => { ln with rxHigh := 20 }).reportIdle l := by
  rw [List.replicate_succ', State.reportLevels_append, State.reportLevels_high running between first (Nat.lt_succ_self 19)]
  refine (State.reportLevel_high (s := s.modLine l _) running ?_).trans ?_
  · rw [State.line_modLine_same]
    exact between
  · rw [State.line_modLine_same, State.modLine_modLine]
    exact if_pos ⟨Nat.lt_succ_self 19, rfl⟩

/-! ### Levels of the lookup link (R136, R172) -/

theorem idleBegins_high (ahead : List Bool) : idleBegins (true :: ahead) = true ↔ ahead.take 19 = List.replicate 19 true := by
  simp [idleBegins, idleBits, List.replicate_succ]

theorem idleBegins_low (ahead : List Bool) : idleBegins (false :: ahead) = false := by
  simp [idleBegins, idleBits, List.replicate_succ]

theorem State.lookupLevel_idle {ahead : List Bool} (running : s.running = true) (between : s.lookup.rxBits = none)
    (idle : ahead.take 19 = List.replicate 19 true) : s.lookupLevel true ahead = s.lookupIdleBegins := by
  simp [State.lookupLevel, running, between, (idleBegins_high ahead).2 idle]

/-- A port between bytes has none of their bits. -/
theorem State.lookup_between (between : s.lookup.rxBits = none) : ({ s with lookup := { s.lookup with rxBits := none } } : State) = s := by
  rw [← between]

theorem State.lookupLevel_high {ahead : List Bool} (running : s.running = true) (between : s.lookup.rxBits = none)
    (busy : ¬ahead.take 19 = List.replicate 19 true) : s.lookupLevel true ahead = .next s := by
  have rx : rxBit s.lookup.rxWaitsIdle none true = (none, none) := by
    unfold rxBit
    split <;> rfl
  simp [State.lookupLevel, running, between, rx, mt (idleBegins_high ahead).1 busy, State.lookup_between between]

/-- A low level before the first idle is nothing (R169). -/
theorem State.lookupLevel_low (running : s.running = true) (waits : s.lookup.rxWaitsIdle = true) (between : s.lookup.rxBits = none)
    (ahead : List Bool) : s.lookupLevel false ahead = .next s := by
  have rx : rxBit s.lookup.rxWaitsIdle none false = (none, none) := by
    rw [waits]
    rfl
  simp [State.lookupLevel, running, between, rx, idleBegins_low, State.lookup_between between]

theorem State.lookupLevel_start (running : s.running = true) (found : s.lookup.rxWaitsIdle = false) (between : s.lookup.rxBits = none)
    (ahead : List Bool) : s.lookupLevel false ahead = .next { s with lookup := { s.lookup with rxBits := some [] } } := by
  simp [State.lookupLevel, running, between, found, rxBit, idleBegins_low]

theorem State.lookupLevel_data {bits : List Bool} (running : s.running = true) (found : s.lookup.rxWaitsIdle = false)
    (under : s.lookup.rxBits = some bits) (more : bits.length < 8) (b : Bool) (ahead : List Bool) :
    s.lookupLevel b ahead = .next { s with lookup := { s.lookup with rxBits := some (bits ++ [b]) } } := by
  simp [State.lookupLevel, running, under, found, rxBit, more]

theorem State.lookupLevel_stop {bits : List Bool} (running : s.running = true) (found : s.lookup.rxWaitsIdle = false)
    (under : s.lookup.rxBits = some bits) (all : 8 ≤ bits.length) (b : Bool) (ahead : List Bool) : s.lookupLevel b ahead =
      ({ s with lookup := { s.lookup with rxBits := none } } : State).lookupByte (byteOfBits bits) := by
  simp [State.lookupLevel, running, under, found, rxBit, not_lt.2 all]

theorem State.lookupLevels_cons {b : Bool} {ahead rest : List Bool} (e : s.lookupLevel b (rest ++ ahead) = .next t) :
    s.lookupLevels ahead (b :: rest) = t.lookupLevels ahead rest := by
  rw [State.lookupLevels, e]
  rfl

/-- An outcome after which nothing more comes stays as it is. -/
theorem andThen_next (o : Result) : andThen o .next = o := by cases o <;> rfl

/-- The data bits that are left and a stop bit complete the byte under way (R171, R172). -/
theorem State.lookupLevels_data {bits rest : List Bool} (running : s.running = true) (found : s.lookup.rxWaitsIdle = false)
    (under : s.lookup.rxBits = some bits) (eight : bits.length + rest.length = 8) (stop : Bool) (ahead : List Bool) :
    s.lookupLevels ahead (rest ++ [stop]) =
      ({ s with lookup := { s.lookup with rxBits := none } } : State).lookupByte (byteOfBits (bits ++ rest)) := by
  induction rest generalizing s bits with
  | nil =>
    rw [List.append_nil, List.nil_append, State.lookupLevels,
      State.lookupLevel_stop running found under (Nat.le_of_eq eight.symm) stop]
    exact andThen_next _
  | cons b rest ih =>
    rw [List.length_cons] at eight
    rw [List.cons_append, State.lookupLevels_cons (State.lookupLevel_data running found under (by omega) b _)]
    refine (ih (s := { s with lookup := { s.lookup with rxBits := some (bits ++ [b]) } }) (bits := bits ++ [b]) running found rfl
      ?_).trans ?_
    · rw [List.length_append, List.length_singleton]
      omega
    · rw [List.append_assoc]
      rfl

/-- The ten levels of a byte are received as the byte, whatever its stop bit (R171, R172). -/
theorem State.lookupLevels_byte (running : s.running = true) (found : s.lookup.rxWaitsIdle = false) (between : s.lookup.rxBits = none)
    (b : Byte) (stop : Bool) (ahead : List Bool) : s.lookupLevels ahead ((laneBits b).set 9 stop) = s.lookupByte b := by
  rw [laneBits_stop, State.lookupLevels_cons (State.lookupLevel_start running found between _)]
  refine (State.lookupLevels_data (s := { s with lookup := { s.lookup with rxBits := some [] } }) running found rfl ?_ stop
    ahead).trans ?_
  · simp
  · rw [List.nil_append, byteOfBits_data]
    exact congrArg (State.lookupByte · b) (State.lookup_between between)

/-- A short query that ends while an answer is in hand is discarded, though the answer ends before the idle has lasted (R136, R138). -/
theorem State.lookupIdleBegins_busy (running : s.running = true) (found : s.lookup.rxWaitsIdle = false) (busy : s.lookup.answer ≠ none)
    (begun : s.lookup.rxBytes ≠ []) : andThen s.lookupIdleBegins (exec .answerSent) = .next { s with
      lookup := { s.lookup with answer := none, txSent := 0, pendingOverrun := true, rxBytes := [] }
      flags := { s.flags with lookupOverrun := true } } := by
  obtain ⟨tag, query⟩ := queryTag?_classifyQuery s.lookup.rxBytes
  rw [State.lookupIdleBegins_ends (State.hearsLookup_eq_true.2 ⟨running, found⟩) begun,
    exec_query_busy (s := { s with lookup := { s.lookup with rxBytes := [] } }) query running found busy]
  exact congrArg Host.Outcome.next (if_pos running)

theorem State.reportLevel_held (held : s.running = false) (b : Bool) : s.reportLevel l b = .next s := by
  simp [State.reportLevel, held]

theorem State.lookupLevel_held (held : s.running = false) (b : Bool) (ahead : List Bool) : s.lookupLevel b ahead = .next s := by
  simp [State.lookupLevel, held]

end

/-- Settles O6: the first idle, the bytes of either link, and the levels of either lane. -/
theorem receiversWaitForIdle : Obligations.ReceiversWaitForIdle := by
  refine ⟨⟨fun s l => exec_idle_report, fun s => exec_idle_lookup,
      fun s c l frame waits => exec_frame_deaf frame (State.hears_eq_false.2 (.inr waits)),
      fun s c tag query waits => exec_query_deaf query (.inr waits)⟩,
    fun s l => ⟨fun deaf => ⟨State.reportByte_deaf deaf, State.reportIdle_first deaf⟩, fun hears empty =>
      ⟨State.reportIdle_between hears empty, State.reportBytes_frame hears empty, fun got short =>
        ⟨State.reportBytes_short hears empty short, State.reportBytes_shortFrame hears empty short⟩⟩⟩,
    fun s => ⟨fun deaf => ?_, fun running found empty => ?_⟩,
    ⟨fun s l running => ⟨fun found between => ⟨State.reportLevels_byte running found between, fun first =>
        ⟨fun n => State.reportLevels_high running between first, State.reportLevels_idle running between first⟩, fun last => ?_⟩,
      fun waits between => ⟨State.reportLevel_low running waits between, fun first => ?_⟩⟩,
    fun s running between => ⟨fun ahead => State.lookupLevel_idle running between, fun ahead => State.lookupLevel_high running between,
      fun found => ⟨State.lookupLevels_byte running found between, fun a ahead answers begun short idle => ?_⟩,
      fun waits => State.lookupLevel_low running waits between⟩,
    fun s held b => ⟨fun l => State.reportLevel_held held b, State.lookupLevel_held held b⟩⟩⟩
  · have deaf := State.hearsLookup_eq_false.2 deaf
    exact ⟨State.lookupByte_deaf deaf, State.lookupIdleBegins_first deaf⟩
  · have hears := State.hearsLookup_eq_true.2 ⟨running, found⟩
    exact ⟨State.lookupIdleBegins_between hears empty, State.lookupBytesArrive_query hears empty, fun b rest short =>
      ⟨State.lookupBytesArrive_short hears empty (Nat.succ_lt_succ short), State.lookupBytesArrive_shortQuery hears empty short⟩⟩
  · rw [State.reportLevel_high running between, last]
    have full : (s.modLine l fun ln => { ln with rxHigh := 20 }) = s := State.modLine_self (by rw [← last])
    exact congrArg Host.Outcome.next full
  · rw [State.reportLevels_idle running between first]
    exact State.reportIdle_first ((State.hears_modLine rfl).trans (State.hears_eq_false.2 (.inr waits)))
  · rw [State.lookupLevel_idle running between idle]
    exact State.lookupIdleBegins_busy running found (by rw [answers]; exact nofun) begun

end Sys2Proof.Machine
end


section
/-! Requeueing, the post-agreement check and the failed attempt, case by case (R82, R83, R96 to R99, R111). -/

namespace Sys2Proof.Machine

/-- Settles O45: the turns a hand-out allows are no fewer than the queue can take, so it does not stop early. -/
theorem handOutLeavesNobodyWaiting : Obligations.HandOutLeavesNobodyWaiting := by
  intro s l up free
  have same : (s.handOut l).lineIsUp l = s.lineIsUp l := (State.moves_handOut (g := False) nofun).up l
  exact List.append_eq_nil_iff.1 (s.busy_handOut l (same.symm.trans up) free)

/-! ### Requeueing (R82) -/

theorem Arbiter.join_urgent {c : Cause} (urgent : c = .qualityDown ∨ c = .lineCeiling) (h : Handle) :
    Arbiter.join h c = fun a => { a with urgent := a.urgent ++ [h] } := by
  obtain rfl | rfl := urgent <;> rfl

theorem Arbiter.join_normal {c : Cause} (down : c ≠ .qualityDown) (ceiling : c ≠ .lineCeiling) (h : Handle) :
    Arbiter.join h c = fun a => { a with normal := a.normal ++ [h] } := by
  cases c with
  | qualityDown => exact absurd rfl down
  | lineCeiling => exact absurd rfl ceiling
  | _ => rfl

section
variable {s : State} {h : Handle} {r : Record}

/-- On an UP line a record waits, and keeps its agreed step (R82). -/
theorem State.requeue_up (hr : s.record? h = some r) (up : s.lines[r.line].state = .up) (c : Cause) :
    s.requeue h c = (s.putRecord h { r with
      state := .waiting, cause := some c, timer := none
      changes := recorded r.changes kindState (s.profileOf r.profile) }).modArbiter r.line (Arbiter.join h c) := by
  have isUp : s.lineIsUp r.line = true := decide_eq_true up
  rw [State.requeue_eq hr, if_pos isUp, Record.requeued, if_pos (show s.env.up r.line = true from isUp), Record.enter_eq]
  rfl

/-- On another line a record parks, and loses its agreed step (R82). -/
theorem State.requeue_notUp (hr : s.record? h = some r) (notUp : s.lines[r.line].state ≠ .up) (c : Cause) :
    s.requeue h c = s.putRecord h { r with
      state := .parked, cause := some c, timer := none, agreed := none
      generation := if r.agreed.isSome then r.generation + 1 else r.generation
      changes := recorded r.changes ((if r.agreed.isSome then kindRate else 0) ||| kindState) (s.profileOf r.profile) } := by
  have isDown : ¬s.lineIsUp r.line = true := mt of_decide_eq_true notUp
  rw [State.requeue_eq hr, if_neg isDown, Record.requeued, if_neg (show ¬s.env.up r.line = true from isDown), Record.enter_eq,
    Record.dropAgreed_eq, recorded_recorded]
  rfl

/-! ### The post-agreement check (R96) -/

/-- A step lies above the quality ceiling when that is measured and every step it allows is lower (R53). -/
theorem aboveQuality_iff {q : Option Quality} {k : Step} :
    aboveQuality q k = true ↔ ∃ x ∈ q, ∀ c ∈ x.ceiling, c < k := by
  rw [← Bool.not_eq_false, aboveQuality_eq_false]
  push Not
  rfl

theorem aboveOverride_iff {o : Option Step} {k : Step} : aboveOverride o k = true ↔ ∃ c ∈ o, c < k := by
  rw [← Bool.not_eq_false, aboveOverride_eq_false]
  push Not
  rfl

theorem aboveQuality_or_aboveOverride_iff {q : Option Quality} {o : Option Step} {k : Step} :
    (aboveQuality q k || aboveOverride o k) = true ↔ (∃ x ∈ q, ∀ c ∈ x.ceiling, c < k) ∨ ∃ c ∈ o, c < k := by
  rw [Bool.or_eq_true, aboveQuality_iff, aboveOverride_iff]

/-- The check of an agreed step: its tests in their order, the first that fails requeues. -/
theorem State.postCheck_eq {k : Step} (hr : s.record? h = some r) (agreed : r.agreed = some k) : s.postCheck h =
    if s.lines[r.line].ceiling < k then s.requeue h .lineCeiling
    else if aboveQuality r.quality k || aboveOverride r.capOverride k then s.requeue h .qualityDown
    else if nonCompliant (s.profileOf r.profile) k then s.requeue h .profile
    else s := by
  simp only [State.postCheck, hr, agreed]

/-! ### HOLDOVER after a failure (R111) -/

theorem State.passToHoldover_down (hr : s.record? h = some r) (agreed : r.state = .agreed) (down : r.carrier = .down) :
    s.passToHoldover h = s.putRecord h { r with
      state := .holdover, changes := recorded r.changes kindState (s.profileOf r.profile)
      timer := some { start := s.now, duration := 10 * (s.profileOf r.profile).holdoverTime } } := by
  rw [State.passToHoldover, hr]
  exact if_pos ⟨agreed, down⟩

theorem State.passToHoldover_stays (hr : s.record? h = some r) (stays : r.state ≠ .agreed ∨ r.carrier ≠ .down) :
    s.passToHoldover h = s := by
  rw [State.passToHoldover, hr]
  exact if_neg fun ⟨agreed, down⟩ => stays.elim (absurd agreed) (absurd down)

/-! ### Failure (R97 to R99) -/

/-- The agreement of the attempt is lost, or there was none: BACKOFF or FAILED follows (R98). -/
theorem State.failAttempt_loses (hr : s.record? h = some r) (lost : ¬(r.cause = some .qualityUp ∧ r.agreed.isSome = true))
    (w : FailReason) :
    s.failAttempt h w = (s.releaseGrant r.line).placeBackoff h { r with attempt := none, timer := none } := by
  rw [State.failAttempt, hr]
  exact if_neg lost

/-- A QUALITY_UP attempt leaves its agreement standing (R99). -/
theorem State.failAttempt_returns (hr : s.record? h = some r) (cause : r.cause = some .qualityUp) (agreed : r.agreed.isSome = true)
    (w : FailReason) :
    s.failAttempt h w = (s.releaseGrant r.line).returnQualityUp h { r with attempt := none, timer := none } w := by
  rw [State.failAttempt, hr]
  exact if_pos ⟨cause, agreed⟩

/-- A counted failure within the retry limit (R98, Table 6-6). -/
theorem State.placeBackoff_again (again : r.attempts + 1 ≤ (s.profileOf r.profile).retryLimit) : s.placeBackoff h r =
    s.putRecord h { r with
      state := .backoff, agreed := none, attempts := r.attempts + 1
      generation := if r.agreed.isSome then r.generation + 1 else r.generation
      changes := recorded r.changes ((if r.agreed.isSome then kindRate else 0) ||| kindState) (s.profileOf r.profile)
      timer := some { start := s.now, duration := backoffMs (s.profileOf r.profile) (r.attempts + 1) } } := by
  simp only [State.placeBackoff, Record.dropAgreed_eq, Record.enter_eq, recorded_recorded]
  exact if_pos again

/-- A counted failure past the retry limit (R98). -/
theorem State.placeBackoff_failed (last : (s.profileOf r.profile).retryLimit < r.attempts + 1) : s.placeBackoff h r =
    s.putRecord h { r with
      state := .failed, agreed := none, attempts := r.attempts + 1
      generation := if r.agreed.isSome then r.generation + 1 else r.generation
      changes := recorded r.changes ((if r.agreed.isSome then kindRate else 0) ||| kindState) (s.profileOf r.profile) } := by
  simp only [State.placeBackoff, Record.dropAgreed_eq, Record.enter_eq, recorded_recorded]
  exact if_neg (not_le.2 last)

end

/-- Settles O43: the line decides between WAITING and PARKED, the cause the class; the check takes the first of its tests that fails. -/
theorem requeueAndPostAgreementCheck : Obligations.RequeueAndPostAgreementCheck := by
  refine ⟨fun s h c r hr => ⟨fun up urgent => ?_, fun up down ceiling => ?_, fun notUp => State.requeue_notUp hr notUp c⟩,
    fun s h r k hr agreed => ?_⟩
  · rw [State.requeue_up hr up, Arbiter.join_urgent urgent]
  · rw [State.requeue_up hr up, Arbiter.join_normal down ceiling]
  · intro line quality profile
    rw [State.postCheck_eq hr agreed]
    refine ⟨fun above => if_pos above, fun fits lower => ?_, fun fits high breach => ?_, fun fits high complies => ?_⟩
    · rw [if_neg fits, if_pos (aboveQuality_or_aboveOverride_iff.2 lower)]
    · rw [if_neg fits, if_neg (mt aboveQuality_or_aboveOverride_iff.1 high), if_pos breach]
    · rw [if_neg fits, if_neg (mt aboveQuality_or_aboveOverride_iff.1 high), if_neg complies]

/-- Settles O46: the cause and the agreed step part R98 from R99, the retry limit and the reason decide within each. -/
theorem failurePlacesTheRecord : Obligations.FailurePlacesTheRecord := by
  refine ⟨fun s h w r hr => ⟨fun lost again => ?_, fun lost last => ?_, fun cause agreed gone => ?_, fun cause agreed stays => ?_⟩,
    fun s h r hr => ⟨State.passToHoldover_down hr, State.passToHoldover_stays hr⟩⟩
  · rw [State.failAttempt_loses hr lost]
    exact State.placeBackoff_again (s := s.releaseGrant r.line) (r := { r with attempt := none, timer := none }) again
  · rw [State.failAttempt_loses hr lost]
    exact State.placeBackoff_failed (s := s.releaseGrant r.line) (r := { r with attempt := none, timer := none }) last
  · rw [State.failAttempt_returns hr cause agreed]
    exact if_pos gone
  · rw [State.failAttempt_returns hr cause agreed]
    exact if_neg stays

end Sys2Proof.Machine
end


section
/-! OUTCOME, CONFIRM and CARRIER at their record (R89 to R91, R95, R109 to R112). -/

namespace Sys2Proof.Machine

section
variable {s : State} {l : LineId} {st : Station} {h : Handle} {r : Record}

/-! ### The frames at their record (R69, R70) -/

theorem exec_outcome_record (hears : s.hears l = true) (unique : s.KeysUnique) (has : s.hasRecord h r l st) (w : OutcomeReason) :
    exec (.outcome l st w) s = .next (State.takeOutcome w (s.heardFrame l) h r) :=
  congrArg Host.Outcome.next ((if_pos hears).trans (State.toStation_of_hasRecord unique has))

theorem exec_confirm_record (hears : s.hears l = true) (unique : s.KeysUnique) (has : s.hasRecord h r l st) (k : Step) :
    exec (.confirm l st k) s = .next (State.takeConfirm k (s.heardFrame l) h r) :=
  congrArg Host.Outcome.next ((if_pos hears).trans (State.toStation_of_hasRecord unique has))

theorem exec_carrier_record (hears : s.hears l = true) (unique : s.KeysUnique) (has : s.hasRecord h r l st) (x : CarrierReport) :
    exec (.carrier l st x) s = .next (State.takeCarrier x (s.heardFrame l) h r) :=
  congrArg Host.Outcome.next ((if_pos hears).trans (State.toStation_of_hasRecord unique has))

/-! ### The end of an attempt (R89, R91, R95) -/

theorem Record.inOffered_iff : r.inOffered = true ↔ r.state = .negotiating ∧ ∃ a ∈ r.attempt, a.phase = .offered := by
  simp [Record.inOffered, Option.any_eq_true]

theorem State.takeOutcome_offered (offered : r.inOffered = true) (w : OutcomeReason) :
    State.takeOutcome w s h r = (s.failAttempt h (failReasonOf w)).handOut r.line := by
  obtain ⟨state, a, attempt, phase⟩ := Record.inOffered_iff.1 offered
  have attempt : r.attempt = some a := attempt
  simp only [State.takeOutcome, Record.attempt?, state, attempt, phase, if_true]

theorem State.takeConfirm_ordered {o : Step} (state : r.state = .negotiating) (ordered : r.orderedStep = some o) (k : Step) :
    State.takeConfirm k s h r = if o = k then s.succeed h r o else s.abandonAndFail h r .protocol := by
  obtain ⟨a, attempt, phase⟩ := Record.orderedStep_eq_some ordered
  simp only [State.takeConfirm, Record.attempt?, state, attempt, phase, if_true]

/-- Success frees the grant, leaves the agreement, and checks it before the hand-out (R95). -/
theorem State.succeed_eq (s : State) (h : Handle) (r : Record) (k : Step) : s.succeed h r k =
    (((s.releaseGrant r.line).putRecord h (Record.succeeded s.env k r)).postCheck h).handOut r.line := rfl

/-! ### CARRIER by state (Table 7-1) -/

theorem State.carrierDown_negotiating (state : r.state = .negotiating) : s.carrierDown h r =
    (s.putRecord h { r with carrier := .down }).abandonAndFail h { r with carrier := .down } .noCarrier := by
  simp only [State.carrierDown, state]

theorem State.carrierDown_other (agreed : r.state ≠ .agreed) (holdover : r.state ≠ .holdover) (negotiating : r.state ≠ .negotiating) :
    s.carrierDown h r = s.putRecord h { r with carrier := .down } := by
  unfold State.carrierDown
  cases state : r.state with
  | agreed => exact absurd state agreed
  | holdover => exact absurd state holdover
  | negotiating => exact absurd state negotiating
  | _ => rfl

theorem State.carrierUp_other (holdover : r.state ≠ .holdover) : s.carrierUp h r = s.putRecord h { r with carrier := .up } := by
  unfold State.carrierUp
  cases state : r.state with
  | holdover => exact absurd state holdover
  | _ => rfl

end

/-- Settles O39: the frame finds its record, and the phase of its attempt says whether the frame ends it. -/
theorem outcomeAndConfirmEndAttempts : Obligations.OutcomeAndConfirmEndAttempts := by
  intro s l st h r hears unique has state
  obtain ⟨-, rfl, rfl⟩ := id has
  intro p u
  refine ⟨fun offered => ⟨?_, ?_⟩, fun k ordered => ⟨?_, fun j other => ?_⟩⟩
  · rw [exec_outcome_record hears unique has, State.takeOutcome_offered offered]
    rfl
  · rw [exec_outcome_record hears unique has, State.takeOutcome_offered offered]
    rfl
  · rw [exec_confirm_record hears unique has, State.takeConfirm_ordered state ordered, if_pos rfl, State.succeed_eq,
      Record.succeeded_eq]
    simp only [decide_eq_true_eq]
    rfl
  · rw [exec_confirm_record hears unique has, State.takeConfirm_ordered state ordered, if_neg other.symm]
    rfl

/-- Settles O40: the frame finds its record, and Table 7-1 by its state. -/
theorem carrierByState : Obligations.CarrierByState := by
  intro s l st h r hears unique has
  obtain ⟨-, rfl, rfl⟩ := id has
  intro p u down
  simp only [exec_carrier_record hears unique has, State.takeCarrier]
  refine ⟨fun state => ?_, fun state => ?_, fun state => ?_, fun agreed holdover negotiating => ?_, fun state => ?_,
    fun holdover => ?_⟩
  · simp only [State.carrierDown, state]
    rfl
  · simp only [State.carrierDown, state]
    rfl
  · rw [State.carrierDown_negotiating state]
    rfl
  · rw [State.carrierDown_other agreed holdover negotiating]
  · simp only [State.carrierUp, state]
    rfl
  · rw [State.carrierUp_other holdover]

end Sys2Proof.Machine
end


section
/-! CAP and RENEGOTIATE by record state (R84, R105, R106). -/

namespace Sys2Proof.Machine

/-! ### CAP (R106) -/

@[simp] theorem State.capReact_withRest (s : State) (x : Rest) (h : Handle) (r : Record) :
    (s.withRest x).capReact h r = (s.capReact h r).withRest x := by
  unfold State.capReact
  cases r.state with
  | agreed | holdover =>
    simp only [State.requeue_withRest]
    split <;> rfl
  | waiting =>
    simp only [State.arbiters_withRest, State.classMove_withRest]
    split <;> rfl
  | _ => rfl

theorem Word.step?_option (o : Option Step) : Word.step? (stepWord o) = o := by
  cases o with
  | none => exact Word.step?_zero
  | some k => exact Word.step?_stepWord k

/-- CAP of a live record answers the override it had and the state it has now (R106). -/
theorem exec_cap {s : State} {h : Handle} {e : Epoch} {r : Record} (ready : s.ready) (named : s.names h e r)
    (live : r.state ≠ .retiring) (o : Option Step) :
    let t := ((s.putRecord h { r with capOverride := o }).capReact h { r with capOverride := o }).handOut r.line
    exec (.cap (handleWord h) (e.setWidth 16) (stepWord o)) s =
      .next (t.answered 0x05 [handleWord h, e.setWidth 16, stepWord o] .ok [stepWord r.capOverride, t.stateWord h]) := by
  intro t
  obtain ⟨step, inRange⟩ := Option.isSome_iff_exists.1 (Word.below_stepWord o)
  refine exec_answers rfl ready
    (((s.outer_putRecord _ _).trans (State.outer_capReact _ _ _)).trans (State.outer_handOut _ _)) ?_
  show cmdCap _ = _
  simp [cmdCap, inRange, Word.step?_option, State.named?_eq_some named, live, t]

section
variable {s : State} {h : Handle} {r : Record}

/-- The agreed step lies above the cap override (R106). -/
def Record.ExceedsCap (r : Record) : Prop := ∃ k ∈ r.agreed, ∃ c ∈ r.capOverride, c < k

theorem Record.exceedsCap_iff : r.agreed.any (aboveOverride r.capOverride) = true ↔ r.ExceedsCap := by
  rw [Record.ExceedsCap]
  cases r.agreed <;> simp [aboveOverride_iff]

theorem State.capReact_exceeds (state : r.state = .agreed ∨ r.state = .holdover) (exceeds : r.ExceedsCap) :
    s.capReact h r = s.requeue h .qualityDown := by
  rcases state with state | state <;>
    simp only [State.capReact, state, Record.exceedsCap_iff.2 exceeds, if_true]

theorem State.capReact_within (state : r.state = .agreed ∨ r.state = .holdover) (within : ¬r.ExceedsCap) :
    s.capReact h r = s := by
  rcases state with state | state <;>
    simp only [State.capReact, state] <;> exact if_neg (mt Record.exceedsCap_iff.1 within)

theorem State.capReact_moves (state : r.state = .waiting) (exceeds : r.ExceedsCap) (normal : h ∈ s.arbiters[r.line].normal) :
    s.capReact h r = s.classMove h .qualityDown := by
  simp only [State.capReact, state]
  exact if_pos (Bool.and_eq_true_iff.2 ⟨Record.exceedsCap_iff.2 exceeds, List.contains_iff_mem.2 normal⟩)

theorem State.capReact_waits (state : r.state = .waiting) (stays : ¬(r.ExceedsCap ∧ h ∈ s.arbiters[r.line].normal)) :
    s.capReact h r = s := by
  simp only [State.capReact, state]
  refine if_neg fun moves => stays ?_
  obtain ⟨exceeds, normal⟩ := Bool.and_eq_true_iff.1 moves
  exact ⟨Record.exceedsCap_iff.1 exceeds, List.contains_iff_mem.1 normal⟩

theorem State.capReact_negotiating (state : r.state = .negotiating) : s.capReact h r =
    s.putRecord h { r with attempt := r.attempt.map fun a : Attempt => { a with rerun := true } } := by
  simp only [State.capReact, state]

theorem State.capReact_idle (state : r.state = .backoff ∨ r.state = .parked ∨ r.state = .failed) : s.capReact h r = s := by
  rcases state with state | state | state <;> simp only [State.capReact, state]

end

/-- Settles O20: the reaction to the new override by the record's state, and the class move. -/
theorem capSetsTheOverride : Obligations.CapSetsTheOverride := by
  refine ⟨fun s h e o r ready named live => ?_, fun s h c r hr => State.classMove_eq hr c⟩
  intro bound exceeds shown
  let capped : Record := { r with capOverride := o }
  refine ⟨bound.capReact h capped, State.capReact_exceeds (r := capped), State.capReact_within (r := capped),
    State.capReact_moves (s := bound) (r := capped), State.capReact_waits (s := bound) (r := capped), fun state => ?_,
    State.capReact_idle (r := capped), ?_⟩
  · rw [State.capReact_negotiating (r := capped) state]
    exact State.putRecord_putRecord s h capped _
  · rw [exec_cap ready named live, State.stateWord_eq]

/-! ### RENEGOTIATE (R105) -/

section
variable {s u : State} {h : Handle} {e : Epoch} {r : Record}

/-- RENEGOTIATE accepted answers the state the record has after the hand-out (R105). -/
theorem exec_renegotiate_accepted (ready : s.ready) (o : s.Outer u)
    (owner : cmdRenegotiate (s.started 0x06 [handleWord h, e.setWidth 16]) =
      .done ((u.handOut r.line).withRest (s.startedRest 0x06 [handleWord h, e.setWidth 16])) .ok [(u.handOut r.line).stateWord h]) :
    exec (.renegotiate (handleWord h) (e.setWidth 16)) s =
      .next ((u.handOut r.line).answered 0x06 [handleWord h, e.setWidth 16] .ok
        [((u.handOut r.line).record? h).elim (0 : Word) fun x => x.state.code.setWidth 16]) := by
  rw [exec_answers (code := 0x06) rfl ready (o.trans (State.outer_handOut _ _)) owner, State.stateWord_eq]

/-- RENEGOTIATE refused changes nothing (R105). -/
theorem exec_renegotiate_refused {status : Status} (ready : s.ready)
    (owner : cmdRenegotiate (s.started 0x06 [handleWord h, e.setWidth 16]) =
      .done (s.started 0x06 [handleWord h, e.setWidth 16]) status []) :
    exec (.renegotiate (handleWord h) (e.setWidth 16)) s =
      .next (s.answered 0x06 [handleWord h, e.setWidth 16] status []) :=
  exec_unchanged (code := 0x06) rfl ready owner

end

/-- Settles O21: Table 6-10 by the record's state, accepted or refused. -/
theorem renegotiateByState : Obligations.RenegotiateByState := by
  intro s h e r ready named c args shown accepted
  have found := State.named?_eq_some named
  refine ⟨fun state up => ?_, fun state down => ?_, fun state => ?_, fun k state cause => ?_, fun state => ?_, fun state => ?_⟩
  · exact exec_renegotiate_accepted ready (s.outer_requeue _ _) (by simp [cmdRenegotiate, found, state, up])
  · exact exec_renegotiate_refused ready (by simp [cmdRenegotiate, found, state, down])
  · exact exec_renegotiate_accepted ready ((s.outer_putRecord _ _).trans (State.outer_requeue _ _ _))
      (by simp [cmdRenegotiate, found, state])
  · exact exec_renegotiate_accepted ready (s.outer_requeue _ _) (by simp [cmdRenegotiate, found, state, cause])
  · refine exec_renegotiate_refused ready ?_
    rcases state with state | state | state <;> simp [cmdRenegotiate, found, state]
  · exact exec_renegotiate_refused ready (by simp [cmdRenegotiate, found, state])

end Sys2Proof.Machine
end


section
/-! The treatment of a line leaving UP, record by record (R115, R116, Table 7-4). -/

namespace Sys2Proof.Machine

section
variable {s : State} {l : LineId} {h : Handle} {r : Record}

/-! ### The record after its line has left UP (Table 7-4) -/

/-- An attempt ends without counting as failed, and its record parks (R115). -/
theorem Record.lineLeftUp_negotiating (state : r.state = .negotiating) : Record.lineLeftUp s r = { r with
    state := .parked, attempt := none, timer := none, agreed := none
    generation := if r.agreed.isSome then r.generation + 1 else r.generation
    changes := recorded r.changes ((if r.agreed.isSome then kindRate else 0) ||| kindState) (s.profileOf r.profile) } := by
  simp only [Record.lineLeftUp, state, Record.dropAgreed_eq, Record.enter_eq, recorded_recorded]

theorem Record.lineLeftUp_waiting (state : r.state = .waiting) : Record.lineLeftUp s r = { r with
    state := .parked, agreed := none
    generation := if r.agreed.isSome then r.generation + 1 else r.generation
    changes := recorded r.changes ((if r.agreed.isSome then kindRate else 0) ||| kindState) (s.profileOf r.profile) } := by
  simp only [Record.lineLeftUp, state, Record.dropAgreed_eq, Record.enter_eq, recorded_recorded]

theorem Record.lineLeftUp_backoff (state : r.state = .backoff) : Record.lineLeftUp s r = { r with
    state := .parked, timer := none, changes := recorded r.changes kindState (s.profileOf r.profile) } := by
  simp only [Record.lineLeftUp, state, Record.enter_eq]

/-- An agreement outlives its line for the holdover time (R115). -/
theorem Record.lineLeftUp_agreed (state : r.state = .agreed) : Record.lineLeftUp s r = { r with
    state := .holdover, carrier := .down, changes := recorded r.changes kindState (s.profileOf r.profile)
    timer := some { start := s.now, duration := 10 * (s.profileOf r.profile).holdoverTime } } := by
  simp only [Record.lineLeftUp, state, Record.enter_eq, State.startTimer]

theorem Record.lineLeftUp_stays
    (state : r.state = .holdover ∨ r.state = .parked ∨ r.state = .failed ∨ r.state = .retiring) : Record.lineLeftUp s r = r := by
  rcases state with state | state | state | state <;> simp only [Record.lineLeftUp, state]

/-! ### The slots after the treatment -/

theorem State.record?_lineLeavesUp_line (hr : s.record? h = some r) (hl : r.line = l) :
    (s.lineLeavesUp l).record? h = some (Record.lineLeftUp s r) := by
  rw [State.record?_lineLeavesUp_of hr, if_pos hl]

/-- A slot whose record is of another line, or in a state that Table 7-4 leaves alone. -/
theorem State.slot_lineLeavesUp_stays (hr : s.record? h = some r) (stays : r.line ≠ l ∨ r.state = .holdover ∨ r.state = .parked ∨
    r.state = .failed ∨ r.state = .retiring) : (s.lineLeavesUp l).slots[h] = s.slots[h] := by
  have same : (if r.line = l then Record.lineLeftUp s r else r) = r :=
    ite_eq_right_iff.2 fun hl => Record.lineLeftUp_stays (stays.resolve_left (not_not.2 hl))
  have body := s.body_of_record? hr
  rw [State.slot_lineLeavesUp, body, SlotBody.lineLeftUp, same, ← body]

/-- A slot without a record. -/
theorem State.slot_lineLeavesUp_none (hr : s.record? h = none) : (s.lineLeavesUp l).slots[h] = s.slots[h] := by
  rw [State.slot_lineLeavesUp]
  cases body : s.slots[h].body with
  | live r => exact absurd (hr.symm.trans (s.record?_of_body body)) nofun
  | free | vacated => exact (congrArg (Slot.mk _) body.symm :)

end

/-- Settles O34: the frame of the treatment, the arbiter it resets, and each slot by the record it finds there. -/
theorem treatmentOfALineLeavingUp : Obligations.TreatmentOfALineLeavingUp := by
  intro s l t
  refine ⟨?_, fun k => ?_, fun h => ⟨?_, fun r => State.slot_lineLeavesUp_stays, State.slot_lineLeavesUp_none,
    fun r hr hl => ?_⟩⟩
  · show s.lineLeavesUp l = { s with slots := (s.lineLeavesUp l).slots, arbiters := (s.lineLeavesUp l).arbiters }
    rw [State.lineLeavesUp_frame]
  · rw [State.arbiter_lineLeavesUp]
    exact if_congr eq_comm rfl rfl
  · rw [State.slot_lineLeavesUp]
  · intro p rate
    rw [State.record?_lineLeavesUp_line hr hl]
    exact ⟨fun state => congrArg some (Record.lineLeftUp_negotiating state),
      fun state => congrArg some (Record.lineLeftUp_waiting state),
      fun state => congrArg some (Record.lineLeftUp_backoff state),
      fun state => congrArg some (Record.lineLeftUp_agreed state)⟩

end Sys2Proof.Machine
end

section
/-! Queries an IDLE port takes: FIND, PEEK, HOLD and RELEASE by what they find (R3, R123, R124, R136, R140 to R142, R144). -/

namespace Sys2Proof.Machine

section
variable {s : State} {l : LineId} {st : Station} {h : Handle} {e : Epoch} {r : Record}

/-! ### FIND (R141) -/

/-- The four bits in which a query spells a line are read back as it (R140). -/
theorem line_of_query (l : LineId) : ∃ inRange : (BitVec.ofNat 4 l.val).toNat < 8, ⟨_, inRange⟩ = l :=
  have same : (BitVec.ofNat 4 l.val).toNat = l.val := Nat.mod_eq_of_lt (Nat.lt_trans l.isLt (by decide))
  ⟨same.trans_lt l.isLt, Fin.ext same⟩

theorem State.applyFind_found (unique : s.KeysUnique) (has : s.hasRecord h r l st) :
    s.applyFind (BitVec.ofNat 4 l.val) st =
      { state := s, status := .ok, content := some (contentOf h s.slots[h].epoch r) } := by
  obtain ⟨inRange, same⟩ := line_of_query l
  unfold State.applyFind
  rw [dif_pos inRange, same, State.findKey_of_hasRecord unique has]
  dsimp only
  rw [has.1]

theorem State.applyFind_notFound (fresh : ¬s.keyLive l st) :
    s.applyFind (BitVec.ofNat 4 l.val) st = { state := s, status := .notFound, content := none } := by
  obtain ⟨inRange, same⟩ := line_of_query l
  unfold State.applyFind
  rw [dif_pos inRange, same, State.findKey_of_notLive fresh]

/-! ### Queries that name a record (R3) -/

/-- The nine bits in which a query spells a handle are read back as it (R140). -/
theorem handle_of_query (h : Handle) : ∃ inRange : (BitVec.ofNat 9 h.val).toNat < 256, ⟨_, inRange⟩ = h :=
  have same : (BitVec.ofNat 9 h.val).toNat = h.val := Nat.mod_eq_of_lt (Nat.lt_trans h.isLt (by decide))
  ⟨same.trans_lt h.isLt, Fin.ext same⟩

theorem State.applyNamed_stale (unnamed : ∀ r, ¬s.names h e r) (f : Handle → Record → Applied) :
    s.applyNamed (BitVec.ofNat 9 h.val) e f = { state := s, status := .stale, content := none } := by
  obtain ⟨inRange, same⟩ := handle_of_query h
  unfold State.applyNamed
  rw [dif_pos inRange, same, State.named?_eq_none unnamed]

theorem State.applyNamed_named (named : s.names h e r) (f : Handle → Record → Applied) :
    s.applyNamed (BitVec.ofNat 9 h.val) e f = f h r := by
  obtain ⟨inRange, same⟩ := handle_of_query h
  unfold State.applyNamed
  rw [dif_pos inRange, same, State.named?_eq_some named]

/-! ### HOLD at a record (R123) -/

theorem State.holdRecord_retiring (state : r.state = .retiring) :
    s.holdRecord e h r = { state := s, status := .retiring, content := some (contentOf h e r) } := if_pos state

theorem State.holdRecord_full (live : r.state ≠ .retiring) (full : r.holds = 15) :
    s.holdRecord e h r = { state := s, status := .holdFull, content := some (contentOf h e r) } :=
  (if_neg live).trans (if_pos full)

theorem State.holdRecord_counts (live : r.state ≠ .retiring) (room : r.holds ≠ 15) :
    s.holdRecord e h r =
      { state := s.putRecord h { r with holds := r.holds + 1 }, status := .ok
        content := some (contentOf h e { r with holds := r.holds + 1 }) } :=
  (if_neg live).trans (if_neg room)

/-! ### RELEASE at a record (R124) -/

theorem State.releaseRecord_notHeld (unheld : r.holds = 0) :
    s.releaseRecord e h r = { state := s, status := .notHeld, content := some (contentOf h e r) } := if_pos unheld

theorem State.releaseRecord_counts (held : r.holds ≠ 0) (stays : ¬(r.state = .retiring ∧ r.holds = 1)) :
    s.releaseRecord e h r =
      { state := s.putRecord h { r with holds := r.holds - 1 }, status := .ok
        content := some (contentOf h e { r with holds := r.holds - 1 }) } := by
  have more : ¬(r.state = .retiring ∧ r.holds - 1 = 0) := fun last => stays ⟨last.1, by omega⟩
  unfold State.releaseRecord
  rw [if_neg held]
  dsimp only
  rw [if_neg more]

/-- The last hold of a RETIRING record: the record leaves the table (R22), and the answer still shows it. -/
theorem State.releaseRecord_last (state : r.state = .retiring) (last : r.holds = 1) :
    s.releaseRecord e h r =
      { state := s.setBody h (Record.left (s.profileOf r.profile) r), status := .ok
        content := some (contentOf h e { r with holds := 0 }) } := by
  unfold State.releaseRecord
  rw [last, if_neg Nat.one_ne_zero]
  dsimp only
  rw [if_pos ⟨state, rfl⟩, State.leaveTable_putRecord]
  rfl

end

/-! ### The answer in hand (R136, R139) -/

/-- The part after the port has taken a query: what the query made of the table, and the answer in hand, which takes the pending
overrun indication with it. -/
def State.holdsAnswer (s : State) (tag : Tag) (a : Applied) : State :=
  { a.state with lookup := { s.lookup with
      answer := some { status := a.status, tag := tag, overrun := s.lookup.pendingOverrun, content := a.content }
      pendingOverrun := false } }

section
variable {s : State} (running : s.running = true) (heard : s.lookup.rxWaitsIdle = false) (idle : s.lookup.answer = none) (tag : Tag)
include running heard idle

/-- An IDLE port past its first idle holds the answer of a query that leaves the port alone. -/
theorem State.query_answered {f : State → Applied} (outer : s.Outer (f s).state) :
    s.query tag f = s.holdsAnswer tag (f s) := by
  have kept : (f s).state.lookup = s.lookup := by rw [outer]
  obtain ⟨held | waits, -⟩ | ⟨-, -, busy, -⟩ | ⟨-, -, -, e⟩ := s.query_cases tag f
  · exact absurd (running.symm.trans held) (by decide)
  · exact absurd (heard.symm.trans waits) (by decide)
  · rw [idle] at busy
    cases busy
  · rw [e, kept]
    rfl

theorem exec_lookupFind_answered (line : BitVec 4) (st : Station) :
    exec (.lookupFind tag line st) s = .next (s.holdsAnswer tag (s.applyFind line st)) :=
  congrArg Host.Outcome.next
    (State.query_answered running heard idle tag (by rw [s.applyFind_state]; exact .refl s))

variable (handle : BitVec 9) (e : Epoch)

theorem exec_peek_answered :
    exec (.peek tag handle e) s = .next (s.holdsAnswer tag (s.applyNamed handle e (s.peekRecord e))) :=
  congrArg Host.Outcome.next
    (State.query_answered running heard idle tag (s.outer_applyNamed handle e fun _ _ => .refl s))

theorem exec_hold_answered :
    exec (.hold tag handle e) s = .next (s.holdsAnswer tag (s.applyNamed handle e (s.holdRecord e))) :=
  congrArg Host.Outcome.next
    (State.query_answered running heard idle tag (s.outer_applyNamed handle e (s.outer_holdRecord e)))

theorem exec_release_answered :
    exec (.release tag handle e) s = .next (s.holdsAnswer tag (s.applyNamed handle e (s.releaseRecord e))) :=
  congrArg Host.Outcome.next
    (State.query_answered running heard idle tag (s.outer_applyNamed handle e (s.outer_releaseRecord e)))

theorem exec_badQuery_answered :
    exec (.badQuery tag) s = .next (s.holdsAnswer tag { state := s, status := .badQuery, content := none }) :=
  congrArg Host.Outcome.next (State.query_answered running heard idle tag (.refl s))

end

/-- Settles O48: each row is answered with what it finds in the table, and HOLD and RELEASE with what they do to the record. -/
theorem queriesAreAnswered : Obligations.QueriesAreAnswered := by
  intro s tag running heard idle answers shown
  refine ⟨exec_badQuery_answered running heard idle tag,
    fun l st => ⟨fun h r unique has => ?_, fun fresh => ?_⟩, fun h e => ?_⟩
  · rw [exec_lookupFind_answered running heard idle, State.applyFind_found unique has]
    rfl
  · rw [exec_lookupFind_answered running heard idle, State.applyFind_notFound fresh]
    rfl
  intro handle
  have peek := exec_peek_answered running heard idle tag handle e
  have hold := exec_hold_answered running heard idle tag handle e
  have release := exec_release_answered running heard idle tag handle e
  refine ⟨fun unnamed => ?_, fun r named => ?_⟩
  · rw [State.applyNamed_stale unnamed] at peek hold release
    exact ⟨peek, hold, release⟩
  · rw [State.applyNamed_named named] at peek hold release
    refine ⟨peek, fun state => ?_, fun live full => ?_, fun live room => ?_, fun unheld => ?_, fun held stays => ?_,
      fun state last => ?_⟩
    · rw [hold, State.holdRecord_retiring state]
      rfl
    · rw [hold, State.holdRecord_full live full]
      rfl
    · rw [hold, State.holdRecord_counts live room]
      rfl
    · rw [release, State.releaseRecord_notHeld unheld]
      rfl
    · rw [release, State.releaseRecord_counts held stays]
      rfl
    · rw [release, State.releaseRecord_last state last]
      rfl

end Sys2Proof.Machine
end

section
/-! Queries out of range, queries at a BUSY port, and the end of an answer (R137, R138, R140). -/

namespace Sys2Proof.Machine

section
variable {s : State} {c : Instr} {tag : Tag}

/-! ### Test 3 of R140 -/

/-- FIND with a line above 7 obtains what a bad query obtains, whatever the table holds. -/
theorem State.query_applyFind_outOfRange {line : BitVec 4} (far : ¬line.toNat < 8) (tag : Tag) (st : Station) :
    s.query tag (State.applyFind line st) = s.query tag fun t => { state := t, status := .badQuery, content := none } :=
  congrArg (s.query tag) (funext fun _ => dif_neg far)

/-- A query with a handle above 255 obtains what a bad query obtains, whatever it would do to a record. -/
theorem State.query_applyNamed_outOfRange {handle : BitVec 9} (far : ¬handle.toNat < 256) (tag : Tag) (e : Epoch)
    (f : State → Handle → Record → Applied) :
    s.query tag (fun t => t.applyNamed handle e (f t)) =
      s.query tag fun t => { state := t, status := .badQuery, content := none } :=
  congrArg (s.query tag) (funext fun _ => dif_neg far)

/-- A query row is ill-formed only by its line or its handle, and then it acts as BAD_QUERY. -/
theorem exec_query_illFormed (ill : c.wellFormed = false) (query : queryTag? c = some tag) :
    exec c s = exec (.badQuery tag) s := by
  cases c
  case lookupFind _ line st =>
    cases query
    exact congrArg Host.Outcome.next (State.query_applyFind_outOfRange (of_decide_eq_false ill) tag st)
  case peek _ handle e =>
    cases query
    exact congrArg Host.Outcome.next
      (State.query_applyNamed_outOfRange (of_decide_eq_false ill) tag e fun t => t.peekRecord e)
  case hold _ handle e =>
    cases query
    exact congrArg Host.Outcome.next
      (State.query_applyNamed_outOfRange (of_decide_eq_false ill) tag e fun t => t.holdRecord e)
  case release _ handle e =>
    cases query
    exact congrArg Host.Outcome.next
      (State.query_applyNamed_outOfRange (of_decide_eq_false ill) tag e fun t => t.releaseRecord e)
  case badQuery => cases ill
  all_goals cases query

/-! ### The BUSY port (R137, R138) -/

theorem exec_queryDiscard_busy (running : s.running = true) (busy : s.lookup.answer.isSome = true) :
    exec .queryDiscard s = .next s.discardQuery :=
  congrArg Host.Outcome.next (if_pos (Bool.and_eq_true_iff.2 ⟨running, busy⟩))

theorem exec_answerSent (running : s.running = true) :
    exec .answerSent s = .next { s with lookup := { s.lookup with answer := none, txSent := 0 } } :=
  congrArg Host.Outcome.next (if_pos running)

end

/-- Settles O49: an ill-formed query acts as BAD_QUERY, a BUSY port discards, and the end of the answer frees it. -/
theorem busyAndBadQueries : Obligations.BusyAndBadQueries := by
  refine ⟨fun s c tag => exec_query_illFormed, fun s a running answers => ?_⟩
  have busy : s.lookup.answer.isSome = true := Option.isSome_of_eq_some answers
  exact ⟨exec_queryDiscard_busy running busy,
    fun c tag query found => exec_query_busy query running found (Option.isSome_iff_ne_none.1 busy),
    exec_answerSent running⟩

end Sys2Proof.Machine
end

section
/-! The device flags, INTn and the CAUSE word (R148 to R154). -/

namespace Sys2Proof.Machine

section
variable {s : State} {v : Word}

/-! ### The level flags (R149) -/

theorem State.changePending_iff : s.changePending = true ↔ ∃ h : Handle, s.slots[h].body.changes ≠ 0 := by
  simp [State.changePending]

theorem State.lineEvent_iff : s.lineEvent = true ↔ ∃ l : LineId, s.lines[l].changes ≠ 0 := by
  simp [State.lineEvent]

/-! ### Writes to FLAGS (R151) -/

theorem exec_flagsWrite (running : s.running = true) : exec (.flagsWrite v) s = .next (s.writeFlags v) :=
  congrArg Host.Outcome.next (if_pos running)

/-- The sticky flags stand in bits 1, 2, 4 and 5 of FLAGS, and a one written there clears its flag. -/
theorem State.flagsWord_writeFlags_bit (i : Fin 16) : (s.writeFlags v).flagsWord.getLsbD i =
    (s.flagsWord.getLsbD i && !(v.getLsbD i && decide (i.val = 1 ∨ i.val = 2 ∨ i.val = 4 ∨ i.val = 5))) := by
  have pending : (s.writeFlags v).changePending = s.changePending := rfl
  have event : (s.writeFlags v).lineEvent = s.lineEvent := rfl
  rw [State.flagsWord_bit, State.flagsWord_bit]
  split
  case h_1 place => simp [place, event]
  case h_4 place => simp [place, pending]
  case h_2 place | h_3 place | h_5 place | h_6 place => simp [place, StickyFlags.clear]
  case h_7 => simp

/-! ### The flags that are both set and enabled (R153, R154) -/

theorem State.enabledFlags_bit (i : Fin 6) :
    s.enabledFlags.getLsbD i = true ↔ s.flagsWord.getLsbD i = true ∧ s.enables.getLsbD i = true := by
  have low : i.val < 16 := by omega
  simp [State.enabledFlags, State.flagsWord, low]

/-- A word is not zero when some bit of it is one. -/
theorem ne_zero_iff_getLsbD {n : Nat} {x : BitVec n} : x ≠ 0 ↔ ∃ i : Fin n, x.getLsbD i = true := by
  rw [Ne, BitVec.eq_of_getLsbD_eq_iff, Fin.exists_iff]
  simp

theorem State.intnAsserted_iff : s.intnAsserted = true ↔
    s.enables.getLsbD 15 = true ∧ ∃ i : Fin 6, s.enabledFlags.getLsbD i = true := by
  rw [State.intnAsserted, Bool.and_eq_true, decide_eq_true_iff, ne_zero_iff_getLsbD]

/-- Flag `i` is the cause when it is set and enabled and no flag of a lower bit is (Table 10-3). -/
theorem State.causeCode_flag (i : Fin 6) : s.causeCode.toNat = i.val + 1 ↔
    s.enabledFlags.getLsbD i = true ∧ ∀ j : Fin 6, j < i → ¬s.enabledFlags.getLsbD j = true := by
  unfold State.causeCode
  generalize s.enabledFlags = f
  revert f i
  decide

theorem State.causeCode_none : s.causeCode.toNat = 0 ↔ ∀ i : Fin 6, ¬s.enabledFlags.getLsbD i = true := by
  unfold State.causeCode
  generalize s.enabledFlags = f
  revert f
  decide

end

/-- Settles O7: each bit of FLAGS after the write, the level flags by the change sets the write leaves. -/
theorem flagsWriteClearsStickyFlags : Obligations.FlagsWriteClearsStickyFlags :=
  fun _ _ running => ⟨_, exec_flagsWrite running, rfl, State.flagsWord_writeFlags_bit⟩

/-- Settles O8: bits 3 and 0 of FLAGS are searches over the slots and the lines. -/
theorem levelFlagsFollowChangeSets : Obligations.LevelFlagsFollowChangeSets := by
  intro s
  rw [show s.flagsWord.getLsbD 3 = s.changePending from s.flagsWord_bit 3,
    show s.flagsWord.getLsbD 0 = s.lineEvent from s.flagsWord_bit 0]
  exact ⟨State.changePending_iff, State.lineEvent_iff⟩

/-- Settles O9: INTn and the cause code by the flags that are both set and enabled, the mask by the lines. -/
theorem intnAndCauseFollowTheFlags : Obligations.IntnAndCauseFollowTheFlags := by
  refine ⟨fun s => ?_, fun s => ⟨fun i => ?_, ?_, fun l => ?_, s.causeWord_zero⟩⟩
  · simp only [State.intnAsserted_iff, State.enabledFlags_bit]
  · simp only [State.causeWord_code, State.causeCode_flag, State.enabledFlags_bit]
  · simp only [State.causeWord_code, State.causeCode_none, State.enabledFlags_bit]
  · rw [State.causeWord_line, decide_eq_true_iff]

end Sys2Proof.Machine
end

section
/-! NEXT_CHANGE and ACK_CHANGE (R145, R146). -/

namespace Sys2Proof.Machine

section
variable {s : State} {start h : Handle} {l : LineId} {st : Station} {code : Word} {args : List Word}

/-! ### NEXT_CHANGE (R145) -/

/-- Whether a slot is vacated, as the third result word of NEXT_CHANGE says it. -/
theorem State.vacatedWord_of_key {w : Word}
    (held : (∃ r, s.hasRecord h r l st ∧ w = 0) ∨ (s.slots[h].body = .vacated l st s.slots[h].body.changes ∧ w = 1)) :
    s.slots[h].body.key? = some (l, st) ∧ (if s.slots[h].body.isVacated then 1 else 0 : Word) = w := by
  obtain ⟨r, ⟨live, rfl, rfl⟩, rfl⟩ | ⟨vacated, rfl⟩ := held
  · rw [s.body_of_record? live]
    exact ⟨rfl, rfl⟩
  · rw [vacated]
    exact ⟨rfl, rfl⟩

theorem cmdNextChange_found {t : State} {w : Word} (arg : t.arg 0 = handleWord start)
    (first : start ≤ h) (changed : t.slots[h].body.changes ≠ 0)
    (lower : ∀ k : Handle, start ≤ k → k < h → t.slots[k].body.changes = 0)
    (key : t.slots[h].body.key? = some (l, st)) (vacated : (if t.slots[h].body.isVacated then 1 else 0 : Word) = w) :
    cmdNextChange t = .done t .ok [handleWord h, t.slots[h].epoch.setWidth 16, w, t.slots[h].body.changes.setWidth 16,
      lineWord l, st.setWidth 16] := by
  have search : (List.finRange 256).find? (fun k => start ≤ k && decide (t.slots[k].body.changes ≠ 0)) = some h := by
    rw [find_handle_some]
    refine ⟨Bool.and_eq_true_iff.2 ⟨decide_eq_true first, decide_eq_true changed⟩, fun k below => ?_⟩
    rw [Bool.and_eq_false_imp, decide_eq_true_iff, decide_eq_false_iff_not, not_not]
    exact fun after => lower k after below
  simp only [cmdNextChange, arg, Word.below_handleWord, search, key, vacated]

theorem cmdNextChange_notFound {t : State} (arg : t.arg 0 = handleWord start)
    (unchanged : ∀ k : Handle, start ≤ k → t.slots[k].body.changes = 0) : cmdNextChange t = .done t .notFound [] := by
  have search : (List.finRange 256).find? (fun k => start ≤ k && decide (t.slots[k].body.changes ≠ 0)) = none := by
    rw [find_handle_none]
    intro k
    rw [Bool.and_eq_false_imp, decide_eq_true_iff, decide_eq_false_iff_not, not_not]
    exact unchanged k
  simp only [cmdNextChange, arg, Word.below_handleWord, search]

/-! ### ACK_CHANGE (R146) -/

variable {e : Epoch} {kinds : BitVec 5}

theorem cmdAckChange_read {t : State} (handle : t.arg 0 = handleWord h) (epoch : t.arg 1 = e.setWidth 16)
    (set : t.arg 2 = kinds.setWidth 16) : cmdAckChange t =
      if e = 0 ∨ t.slots[h].epoch ≠ e ∨ t.slots[h].body.isFree then .done t .stale []
      else .done (t.setBody h (t.slots[h].body.acknowledge kinds)) .ok
        [(t.slots[h].body.acknowledge kinds).changes.setWidth 16, (t.slots[h].body.acknowledge kinds).code.setWidth 16] := by
  simp only [cmdAckChange, handle, epoch, set, Word.below_handleWord, Word.twelve?_setWidth, Word.kinds?_setWidth]

theorem exec_ackChange_stale (ready : s.ready) (stale : e = 0 ∨ s.slots[h].epoch ≠ e ∨ s.slots[h].body = .free) :
    exec (.ackChange (handleWord h) (e.setWidth 16) (kinds.setWidth 16)) s =
      .next (s.answered 0x09 [handleWord h, e.setWidth 16, kinds.setWidth 16] .stale []) := by
  refine exec_unchanged rfl ready ?_
  refine (cmdAckChange_read (s.started_arg _ _ 0) (s.started_arg _ _ 1) (s.started_arg _ _ 2)).trans (if_pos ?_)
  exact stale.imp_right (Or.imp_right fun free => by rw [State.started_slots, free]; rfl)

/-- The pair names a live or vacated slot, and the kinds are removed from its set. -/
theorem exec_ackChange_acknowledges (ready : s.ready) (pair : e ≠ 0) (epoch : s.slots[h].epoch = e)
    (held : s.slots[h].body.isFree = false) {b : SlotBody} (after : s.slots[h].body.acknowledge kinds = b) :
    exec (.ackChange (handleWord h) (e.setWidth 16) (kinds.setWidth 16)) s =
      .next ((s.setBody h b).answered 0x09 [handleWord h, e.setWidth 16, kinds.setWidth 16] .ok
        [b.changes.setWidth 16, b.code.setWidth 16]) := by
  refine exec_answers rfl ready (s.outer_setBody h b) ?_
  subst after
  refine (cmdAckChange_read (s.started_arg _ _ 0) (s.started_arg _ _ 1) (s.started_arg _ _ 2)).trans (if_neg ?_)
  rintro (zero | other | free)
  · exact pair zero
  · exact other epoch
  · exact absurd (held.symm.trans free) (by decide)

end

/-- Settles O23: the search from the start handle, and the body that each slot is left with. -/
theorem nextChangeAndAckChange : Obligations.NextChangeAndAckChange := by
  refine ⟨fun s start ready => ⟨fun h l st w first changed lower held => ?_, fun unchanged => ?_⟩,
    fun s h e kinds ready => ⟨exec_ackChange_stale ready, fun r named => ?_, fun l st x pair epoch vacated => ?_⟩⟩
  · obtain ⟨key, vacated⟩ := State.vacatedWord_of_key held
    exact exec_unchanged rfl ready (cmdNextChange_found (s.started_arg _ _ 0) first changed lower key vacated)
  · exact exec_unchanged rfl ready (cmdNextChange_notFound (s.started_arg _ _ 0) unchanged)
  · obtain ⟨pair, epoch, live⟩ := named
    have body := s.body_of_record? live
    exact exec_ackChange_acknowledges ready pair epoch (by rw [body]; rfl) (by rw [body]; rfl)
  · have held : s.slots[h].body.isFree = false := by rw [vacated]; rfl
    refine ⟨fun left => ?_, fun emptied => ?_⟩
    · exact exec_ackChange_acknowledges ready pair epoch held (by rw [vacated]; exact if_neg left)
    · exact exec_ackChange_acknowledges ready pair epoch held (by rw [vacated]; exact if_pos emptied)

end Sys2Proof.Machine
end

section
/-! Writes to the words of the window (R152, R156, R158, R161). -/

namespace Sys2Proof.Machine

section
variable {s : State} {a : BitVec 5} {v : Word}

/-! ### ENABLES and PORT_STATUS (R152, R161) -/

theorem exec_enablesWrite (running : s.running = true) : exec (.enablesWrite v) s = .next (s.writeEnables v) :=
  congrArg Host.Outcome.next (if_pos running)

/-- The bits of ENABLES that are held: the six flags and the master enable (Table 13-6). -/
theorem enablesMask_bit (i : Fin 16) : Config.enablesMask.getLsbD i = decide (i.val < 6 ∨ i.val = 15) := by
  revert i
  decide

theorem exec_portStatusWrite (running : s.running = true) : exec (.portStatusWrite v) s =
    .next { s with port := { s.port with mailboxBusy := if v.getLsbD 0 then false else s.port.mailboxBusy } } := by
  refine (congrArg Host.Outcome.next (if_pos running)).trans ?_
  rw [State.writePortStatus]
  cases v.getLsbD 0 <;> simp

/-! ### Writes by address (R156) -/

theorem State.writeWord_ctrl (s : State) (v : Word) : s.writeWord 0x02 v = if v.getLsbD 15 then s.writeGo else s := rfl

/-- A write at the address of no writable word is ignored. -/
theorem State.writeWord_none (s : State) (v : Word) (out : a.toNat < 2 ∨ a.toNat = 6 ∨ 14 ≤ a.toNat) : s.writeWord a v = s := by
  unfold State.writeWord
  rw [if_neg (by omega), if_neg (by omega), if_neg (by omega), if_neg (by omega), if_neg (by omega), dif_neg (by omega)]

theorem State.writeWord_ignored (s : State) (ignored : ignoredWrite a v = true) : s.writeWord a v = s := by
  simp only [ignoredWrite, Bool.or_eq_true, Bool.and_eq_true, beq_iff_eq, decide_eq_true_iff, Bool.not_eq_true'] at ignored
  by_cases ctrl : a.toNat = 2
  · obtain rfl : a = 0x02 := BitVec.eq_of_toNat_eq ctrl
    rw [State.writeWord_ctrl, if_neg]
    intro go
    rw [go] at ignored
    simp at ignored
  · exact s.writeWord_none v (by omega)

theorem exec_registerWrite_ignored (ignored : ignoredWrite a v = true) : exec (.registerWrite a v) s = .next s := by
  show Host.Outcome.next (if s.running then s.writeWord a v else s) = _
  rw [s.writeWord_ignored ignored, ite_self]

theorem exec_registerWrite_go (go : v.getLsbD 15 = true) : exec (.registerWrite 0x02 v) s = exec .goWhileBusy s := by
  show Host.Outcome.next (if s.running then s.writeWord 0x02 v else s) = .next (if s.running then s.writeGo else s)
  rw [State.writeWord_ctrl, if_pos go]

/-! ### The mailbox (R158) -/

theorem toNat_argAddress (i : Fin 6) : (BitVec.ofNat 5 (0x08 + i.val)).toNat = 0x08 + i.val :=
  toNat_field (by omega)

theorem State.writeWord_arg (s : State) (v : Word) (i : Fin 6) :
    s.writeWord (BitVec.ofNat 5 (0x08 + i.val)) v = s.writeMailbox (.arg i) v := by
  unfold State.writeWord
  simp only [toNat_argAddress]
  rw [if_neg (by omega), if_neg (by omega), if_neg (by omega), if_neg (by omega), if_neg (by omega), dif_pos (by omega)]
  congr
  omega

theorem exec_registerWrite_arg (i : Fin 6) :
    exec (.registerWrite (BitVec.ofNat 5 (0x08 + i.val)) v) s = exec (.mailboxWrite (.arg i) v) s := by
  show Host.Outcome.next (if s.running then s.writeWord _ v else s) = _
  rw [State.writeWord_arg]
  rfl

theorem State.readWord_arg (running : s.running = true) (i : Fin 6) :
    s.readWord (BitVec.ofNat 5 (0x08 + i.val)) = s.port.args[i] := by
  unfold State.readWord
  simp only [toNat_argAddress, running]
  rw [if_neg (by decide), if_neg (by omega), if_neg (by omega), if_neg (by omega), if_neg (by omega), if_neg (by omega),
    if_neg (by omega), if_neg (by omega), if_neg (by omega), dif_pos (by omega)]
  simp

theorem exec_mailboxWrite (running : s.running = true) (w : MailboxWord) :
    exec (.mailboxWrite w v) s = .next (s.writeMailbox w v) :=
  congrArg Host.Outcome.next (if_pos running)

theorem State.writeMailbox_code (free : s.port.go = false) :
    s.writeMailbox .code v = { s with port := { s.port with mailbox := v } } :=
  if_neg (by rw [free]; decide)

theorem State.writeMailbox_arg (free : s.port.go = false) (i : Fin 6) :
    s.writeMailbox (.arg i) v = { s with port := { s.port with args := s.port.args.set i v } } :=
  if_neg (by rw [free]; decide)

/-- A written argument word is read back, and the other argument words read as before. -/
theorem State.readWord_writeMailbox_arg (ready : s.ready) (i j : Fin 6) :
    (s.writeMailbox (.arg i) v).readWord (BitVec.ofNat 5 (0x08 + j.val)) =
      if i = j then v else s.readWord (BitVec.ofNat 5 (0x08 + j.val)) := by
  have running : (s.writeMailbox (.arg i) v).running = true := by rw [State.writeMailbox_arg ready.2]; exact ready.1
  rw [State.readWord_arg running, State.readWord_arg ready.1, State.writeMailbox_arg ready.2]
  simp only [Fin.getElem_fin, Vector.getElem_set, Fin.ext_iff]

end

end Sys2Proof.Machine
end

section
/-! SPI transactions, SCK cycle by SCK cycle (R156, R157, R169, R173). -/

namespace Sys2Proof.Machine

/-! ### The bits of a word, most significant first -/

theorem bitsOfWord_eq (w : Word) : bitsOfWord w = (List.range 16).map w.getMsbD := rfl

theorem bitsOfWord_length (w : Word) : (bitsOfWord w).length = 16 := rfl

/-- The first bits of a word spell the word without its other bits. -/
theorem foldl_getMsbD {n k : Nat} (w : BitVec n) (within : k ≤ n) :
    ((List.range k).map w.getMsbD).foldl (fun m b => 2 * m + b.toNat) 0 = w.toNat / 2 ^ (n - k) := by
  induction k with
  | zero => exact (Nat.div_eq_of_lt w.isLt).symm
  | succ k ih =>
    have next : w.toNat / 2 ^ (n - k) = w.toNat / 2 ^ (n - (k + 1)) / 2 := by
      rw [Nat.div_div_eq_div_mul, ← pow_succ]
      congr 2
      omega
    have last : (w.getMsbD k).toNat = w.toNat / 2 ^ (n - (k + 1)) % 2 := by
      rw [BitVec.getMsbD_eq_getLsbD, decide_eq_true (Nat.lt_of_succ_le within), Bool.true_and, ← BitVec.testBit_toNat, Nat.toNat_testBit,
        Nat.sub_sub, Nat.add_comm 1 k]
    rw [List.range_succ, List.map_append, List.map_singleton, List.foldl_concat, ih (by omega), next, last]
    omega

theorem wordOfBits_bitsOfWord (w : Word) : wordOfBits (bitsOfWord w) = w := by
  rw [wordOfBits, bitsOfWord_eq, foldl_getMsbD w (le_refl 16)]
  simp

section
variable {s t : State} {a : BitVec 5} {bits got : List Bool} {b : Bool}

/-! ### One cycle after another -/

theorem State.spiCycles_concat (s : State) (bits : List Bool) (b : Bool) :
    s.spiCycles (bits ++ [b]) = andThen (s.spiCycles bits) fun t => t.spiClock b := List.foldl_concat ..

theorem State.spiCycles_cons (clock : s.spiClock b = .next t) : s.spiCycles (b :: bits) = t.spiCycles bits := by
  show List.foldl _ (s.spiClock b) bits = _
  rw [clock]
  rfl

theorem State.spiOut_cons (clock : s.spiClock b = .next t) : s.spiOut (b :: bits) = s.spiMiso :: t.spiOut bits := by
  rw [State.spiOut, clock]

theorem State.spiOut_singleton (s : State) (b : Bool) : s.spiOut [b] = [s.spiMiso] := by
  rw [State.spiOut]
  cases s.spiClock b <;> rfl

/-! ### Words received: the header, and the data words of a write -/

/-- The port keeps the bits of a word as they come in and drives MISO low. -/
structure Spi.Receives (word : List Bool → Spi) : Prop where
  miso : ∀ {s : State} {got : List Bool}, s.spi = word got → s.spiMiso = some false
  clock : ∀ {s : State} {got : List Bool} (b : Bool), s.spi = word got → got.length < 15 →
    s.spiClock b = .next { s with spi := word (got ++ [b]) }

theorem Spi.receives_header : Spi.Receives .header where
  miso e := by rw [State.spiMiso, e]
  clock b e short := by
    rw [State.spiClock, e]
    exact if_pos (by simpa using Nat.succ_lt_succ short)

theorem Spi.receives_writing (a : BitVec 5) : Spi.Receives (.writing a) where
  miso e := by rw [State.spiMiso, e]
  clock b e short := by
    rw [State.spiClock, e]
    exact if_pos (by simpa using Nat.succ_lt_succ short)

variable {word : List Bool → Spi}

/-- Fewer than sixteen bits are kept. -/
theorem Spi.Receives.spiCycles_short (rx : Spi.Receives word) (begun : s.spi = word []) (short : bits.length < 16) :
    s.spiCycles bits = .next { s with spi := word bits } := by
  induction bits using List.reverseRecOn with
  | nil => exact congrArg Host.Outcome.next (by rw [← begun])
  | append_singleton front b ih =>
    rw [List.length_append, List.length_singleton] at short
    rw [State.spiCycles_concat, ih (by omega)]
    exact rx.clock (s := { s with spi := word front }) b rfl (by omega)

/-- The sixteenth bit meets the fifteen before it. -/
theorem Spi.Receives.spiCycles_full (rx : Spi.Receives word) (begun : s.spi = word []) (full : bits.length = 16) :
    ∃ front b, bits = front ++ [b] ∧ front.length = 15 ∧ s.spiCycles bits = State.spiClock { s with spi := word front } b := by
  obtain rfl | ⟨front, b, rfl⟩ := bits.eq_nil_or_concat
  · cases full
  rw [List.concat_eq_append, List.length_append, List.length_singleton] at full
  refine ⟨front, b, List.concat_eq_append, by omega, ?_⟩
  rw [List.concat_eq_append, State.spiCycles_concat, rx.spiCycles_short begun (by omega)]
  rfl

theorem Spi.Receives.spiOut (rx : Spi.Receives word) (begun : s.spi = word got) (within : got.length + bits.length ≤ 16) :
    s.spiOut bits = List.replicate bits.length (some false) := by
  induction bits generalizing s got with
  | nil => rfl
  | cons b rest ih =>
    rw [List.length_cons] at within
    cases rest with
    | nil => rw [State.spiOut_singleton, rx.miso begun]; rfl
    | cons c rest =>
      rw [List.length_cons] at within
      rw [State.spiOut_cons (rx.clock b begun (by omega)), rx.miso begun,
        ih (s := { s with spi := word (got ++ [b]) }) rfl (by simp; omega)]
      rfl

theorem State.spiCycles_header (begun : s.spi = .header []) (w : Word) : s.spiCycles (bitsOfWord w) = .next { s with
    spi := if w.getLsbD 15 then .reading (w.extractLsb' 0 5) 0 0 else .writing (w.extractLsb' 0 5) [] } := by
  obtain ⟨front, b, bits, length, cycles⟩ := Spi.receives_header.spiCycles_full begun (bitsOfWord_length w)
  have read : wordOfBits (front ++ [b]) = w := by rw [← bits, wordOfBits_bitsOfWord]
  rw [cycles, State.spiClock]
  dsimp only
  rw [if_neg (by simp [length]), read]
  rfl

theorem State.spiCycles_writing (begun : s.spi = .writing a []) (v : Word) :
    s.spiCycles (bitsOfWord v) = exec (.registerWrite a v) { s with spi := .writing (a + 1) [] } := by
  obtain ⟨front, b, bits, length, cycles⟩ := (Spi.receives_writing a).spiCycles_full begun (bitsOfWord_length v)
  have written : wordOfBits (front ++ [b]) = v := by rw [← bits, wordOfBits_bitsOfWord]
  rw [cycles, State.spiClock]
  dsimp only
  rw [if_neg (by simp [length]), written]
  rfl

/-! ### Words read -/

/-- A read drives the bits of the word as taken at its first bit, from the bit it stands at, and ends at the next address. -/
theorem State.spi_reads {w x : Word} {sent : Nat} (reading : s.spi = .reading a x sent)
    (taken : (if sent = 0 then s.readWord a else x) = w) (rest : sent + bits.length = 16) (more : bits ≠ []) :
    s.spiOut bits = (List.range' sent bits.length).map (fun i => some (w.getMsbD i)) ∧
      s.spiCycles bits = .next { s with spi := .reading (a + 1) 0 0 } := by
  induction bits generalizing s x sent with
  | nil => exact absurd rfl more
  | cons b tail ih =>
    have miso : s.spiMiso = some (w.getMsbD sent) := by rw [State.spiMiso, reading, ← taken]
    cases tail with
    | nil =>
      have last : ¬sent + 1 < 16 := by simp at rest; omega
      refine ⟨by rw [State.spiOut_singleton, miso]; rfl, ?_⟩
      show s.spiClock b = _
      rw [State.spiClock, reading]
      dsimp only
      rw [if_neg last]
      rfl
    | cons c tail =>
      have clock : s.spiClock b = .next { s with spi := .reading a w (sent + 1) } := by
        rw [State.spiClock, reading]
        dsimp only
        rw [taken, if_pos (by simp at rest; omega)]
      obtain ⟨out, cycles⟩ := ih (s := { s with spi := .reading a w (sent + 1) }) rfl rfl
        (by simp at rest ⊢; omega) (by simp)
      exact ⟨by rw [State.spiOut_cons clock, miso, out]; rfl, by rw [State.spiCycles_cons clock, cycles]⟩

theorem State.spi_readsWord (reading : s.spi = .reading a 0 0) (v : Word) :
    s.spiOut (bitsOfWord v) = (bitsOfWord (s.readWord a)).map some ∧
      s.spiCycles (bitsOfWord v) = .next { s with spi := .reading (a + 1) 0 0 } := by
  obtain ⟨out, cycles⟩ := State.spi_reads (bits := bitsOfWord v) reading (if_pos rfl) rfl (List.cons_ne_nil _ _)
  exact ⟨out, cycles⟩

/-! ### The edges of CSn -/

theorem State.spiSelect_idle (high : s.spi = .idle) : s.spiSelect = { s with spi := if s.running then .header [] else .skipped } := by
  obtain ⟨-, e⟩ | ⟨low, -⟩ := s.spiSelect_cases
  · exact e
  · exact absurd high low

theorem State.spi_skipped (skipped : s.spi = .skipped) (b : Bool) : s.spiMiso = some false ∧ s.spiClock b = .next s := by
  rw [State.spiMiso, State.spiClock, skipped]
  exact ⟨rfl, rfl⟩

end

/-- Settles O10: the writes by the word they reach, and a transaction by its header and its data words. -/
theorem windowWrites : Obligations.WindowWrites := by
  refine ⟨fun s running => ⟨fun v => ⟨_, exec_enablesWrite running, rfl, fun i => ?_⟩, fun v => exec_portStatusWrite running,
    fun a v => exec_registerWrite_ignored, fun free v => ⟨?_, fun i => ?_⟩⟩, fun s => ⟨fun high => ⟨?_, State.spiSelect_idle high⟩,
    rfl, State.spi_skipped, fun w header => ?_, fun a v writing => ?_, fun a bits => (Spi.receives_writing a).spiCycles_short,
    fun a v reading => State.spi_readsWord reading v⟩, fun s v =>
    ⟨exec_registerWrite_go, rfl, rfl, rfl, rfl, exec_registerWrite_arg⟩⟩
  · rw [State.writeEnables_enables, BitVec.getLsbD_and, enablesMask_bit]
  · rw [exec_mailboxWrite running, State.writeMailbox_code free]
  · refine ⟨_, exec_mailboxWrite running _, ?_, State.readWord_writeMailbox_arg ⟨running, free⟩ i⟩
    rw [State.writeMailbox_arg free]
  · rw [State.spiMiso, high]
  · exact ⟨Spi.receives_header.spiOut header (Nat.le_of_eq (bitsOfWord_length w)), State.spiCycles_header header w⟩
  · exact ⟨(Spi.receives_writing a).spiOut writing (Nat.le_of_eq (bitsOfWord_length v)), State.spiCycles_writing writing v⟩

end Sys2Proof.Machine
end

section
/-! Reads of the window, and the mailbox while GO reads one (R156, R160, R163, R166). -/

namespace Sys2Proof.Machine

section
variable {s : State}

/-! ### Words of the window (R156, Table 13-6) -/

/-- CTRL holds GO at the top and the status at the bottom. -/
theorem State.readWord_ctrl (running : s.running = true) :
    s.readWord 0x02 = bit s.port.go ++ (0 : BitVec 11) ++ s.port.status := by
  simp [State.readWord, running]

/-- PORT_STATUS holds MAILBOX_BUSY alone. -/
theorem State.readWord_portStatus (running : s.running = true) :
    s.readWord 0x03 = if s.port.mailboxBusy then 1 else 0 := by
  have word : s.readWord 0x03 = (0 : BitVec 15) ++ bit s.port.mailboxBusy := by simp [State.readWord, running]
  rw [word]
  cases s.port.mailboxBusy <;> rfl

theorem State.readWord_idPart (running : s.running = true) : s.readWord 0x00 = 0x2218 := by
  simp [State.readWord, running, Config.idPart]

theorem State.readWord_idRev (running : s.running = true) : s.readWord 0x01 = 0x0001 := by
  simp [State.readWord, running, Config.idRev]

/-- From address 0x0E upward the results are read, and past them nothing. -/
theorem State.readWord_high (running : s.running = true) {a : BitVec 5} (high : 0x0E ≤ a.toNat) :
    s.readWord a = if h : 0x0E ≤ a.toNat ∧ a.toNat ≤ 0x15 then s.port.res[a.toNat - 0x0E]'(by omega) else 0 := by
  unfold State.readWord
  simp only [running]
  rw [if_neg (by decide), if_neg (by omega), if_neg (by omega), if_neg (by omega), if_neg (by omega), if_neg (by omega),
    if_neg (by omega), if_neg (by omega), if_neg (by omega), dif_neg (by omega)]

theorem State.readWord_res (running : s.running = true) (i : Fin 8) :
    s.readWord (BitVec.ofNat 5 (0x0E + i.val)) = s.port.res[i] := by
  have address : (BitVec.ofNat 5 (0x0E + i.val)).toNat = 0x0E + i.val := toNat_field (by omega)
  rw [State.readWord_high running (by omega), dif_pos (by omega)]
  simp [address]

theorem State.readWord_unassigned (running : s.running = true) {a : BitVec 5} (out : 0x16 ≤ a.toNat) : s.readWord a = 0 := by
  rw [State.readWord_high running (by omega), dif_neg (by omega)]

/-! ### GO and the mailbox (R159, R160) -/

theorem exec_goWhileBusy (running : s.running = true) : exec .goWhileBusy s = .next s.writeGo :=
  congrArg Host.Outcome.next (if_pos running)

theorem State.writeMailbox_busy (busy : s.port.go = true) (w : MailboxWord) (v : Word) : s.writeMailbox w v = s.setMailboxBusy :=
  if_pos busy

/-- A code in no row of Table 13-7 has the owner of UNKNOWN_COMMAND (R163). -/
theorem commandOf_unknown {code : Word} (unknown : (Instr.unknownCommand code).wellFormed = true) :
    commandOf code = cmdUnknown := by
  have unlisted : code ∉ commandCodes := by simpa [Instr.wellFormed] using unknown
  have other : ∀ n ∈ commandCodes.map BitVec.toNat, code.toNat ≠ n := by
    rintro n known rfl
    exact unlisted ((List.mem_map_of_injective BitVec.toNat_injective).1 known)
  unfold commandOf
  split
  case h_22 => rfl
  all_goals next e => exact (other _ (by decide) e).elim

end

/-- Settles O12: the words one by one, CTRL by its fields. -/
theorem windowReads : Obligations.WindowReads := by
  intro s running
  obtain ⟨status, zero, go⟩ := fields_three (bit s.port.go) (0 : BitVec 11) s.port.status
  refine ⟨State.readWord_idPart running, State.readWord_idRev running, ?_, State.readWord_portStatus running, ?_, ?_, ?_, ?_,
    State.readWord_arg running, State.readWord_res running, fun a => State.readWord_unassigned running⟩
  · rw [State.readWord_ctrl running]
    exact ⟨getLsbD_of_field go, status, zero⟩
  all_goals simp [State.readWord, running]

/-- Settles O11: each of the writes finds GO one. -/
theorem busyMailboxRefuses : Obligations.BusyMailboxRefuses := by
  intro s running busy
  refine ⟨?_, fun w v => ?_, fun c ⟨code, args⟩ host => ?_⟩
  · rw [exec_goWhileBusy running, State.writeGo, if_pos busy]
    rfl
  · rw [exec_mailboxWrite running, State.writeMailbox_busy busy]
    rfl
  · rw [exec_hostCommand host, State.issue_busy running busy]
    rfl

/-- Settles O15: both owners change nothing. -/
theorem identAndUnknownCommand : Obligations.IdentAndUnknownCommand := fun _ ready =>
  ⟨exec_unchanged rfl ready rfl, State.readWord_idPart ready.1, State.readWord_idRev ready.1, fun _ unknown =>
    exec_unchanged rfl ready (by rw [commandOf_unknown unknown]; rfl)⟩

end Sys2Proof.Machine
end

section
/-! How a host command ends: done with everything in place, or refused with nothing changed (R158, R159, R161, R162, R164, R165). -/

namespace Sys2Proof.Machine

section
variable {s t u : State} {code : Word} {args : List Word}

/-! ### What the owners answer (R162, R165) -/

/-- An owner accepts and leaves the lookup port alone, or it refuses and changes nothing, but for TABLE_FULL with FULL (R162). -/
def CmdResult.Answers (s : State) : CmdResult → Prop
  | .done t .ok _ => t.lookup = s.lookup
  | .done t .full _ => t = s.setTableFull
  | .done t _ _ => t = s
  | .running _ => False

theorem CmdResult.Answers.of_outer {res : List Word} (o : s.Outer t) : (CmdResult.done t .ok res).Answers s := by
  show t.lookup = s.lookup
  rw [o]

/-- A refusal with a status: TABLE_FULL is set with FULL, and nothing else changes (R162). -/
def State.Refused (s : State) (status : Status) (t : State) : Prop :=
  status = .full ∧ t = s.setTableFull ∨ status ≠ .full ∧ t = s

/-- The cases of an answer, the status beside the state. -/
theorem CmdResult.Answers.cases {x : CmdResult} (answers : x.Answers s) : ∃ t status res, x = .done t status res ∧
    t.lookup = s.lookup ∧ (status = .ok ∨ s.Refused status t) := by
  cases x with
  | running t => exact answers.elim
  | done t status res =>
    refine ⟨t, status, res, rfl, ?_⟩
    cases status
    case ok => exact ⟨answers, .inl rfl⟩
    case full => cases answers; exact ⟨rfl, .inr (.inl ⟨rfl, rfl⟩)⟩
    all_goals cases answers; exact ⟨rfl, .inr (.inr ⟨nofun, rfl⟩)⟩

theorem State.created_lookup (h : Handle) (r : Record) : (s.created h r).lookup = s.lookup := by
  unfold State.created
  dsimp only
  split <;> rfl

/-- An admission that finds a slot leaves the lookup port alone (R15). -/
theorem State.place_lookup {l : LineId} {st : Station} {p : Fin 16} {mask : Option StepSet} {c : Cause} {h : Handle}
    (normal : c.isUrgent = false) (e : s.place l st p mask c = .placed h t) : t.lookup = s.lookup := by
  rw [State.place_eq s l st p mask normal] at e
  split at e
  · cases e
  split at e
  · cases e
  · cases e
    exact State.created_lookup _ _

variable (s)

theorem answers_cmdAdmit : (cmdAdmit s).Answers s := by
  unfold cmdAdmit
  split
  case h_2 => rfl
  split
  · rfl
  split
  · rfl
  split
  case h_3 h t placed => exact (CmdResult.Answers.of_outer (res := []) (t.outer_handOut _)).trans (State.place_lookup rfl placed)
  all_goals rfl

theorem answers_cmdFind : (cmdFind s).Answers s := by
  unfold cmdFind
  repeat' split
  all_goals rfl

theorem answers_cmdRead : (cmdRead s).Answers s := by
  unfold cmdRead
  split <;> rfl

theorem answers_cmdRebind : (cmdRebind s).Answers s := by
  unfold cmdRebind
  split
  case h_2 => rfl
  split
  · rfl
  split
  · rfl
  split
  · rfl
  · exact .of_outer (((s.outer_putRecord _ _).trans (State.outer_rebindReact _ _ _)).trans (State.outer_handOut _ _))

theorem answers_cmdCap : (cmdCap s).Answers s := by
  unfold cmdCap
  split
  case h_2 => rfl
  split
  · rfl
  split
  · rfl
  · exact .of_outer (((s.outer_putRecord _ _).trans (State.outer_capReact _ _ _)).trans (State.outer_handOut _ _))

theorem answers_cmdRenegotiate : (cmdRenegotiate s).Answers s := by
  have requeued : ∀ {u : State} (h c l), s.Outer u → s.Outer ((u.requeue h c).handOut l) := fun _ _ _ o =>
    (o.trans (State.outer_requeue _ _ _)).trans (State.outer_handOut _ _)
  unfold cmdRenegotiate
  split
  case h_2 => rfl
  split
  · rfl
  dsimp only
  split
  case h_1 =>
    split
    · exact .of_outer (requeued _ _ _ (.refl s))
    · rfl
  case h_2 => exact .of_outer (requeued _ _ _ (s.outer_putRecord _ _))
  case h_3 => exact .of_outer (requeued _ _ _ (.refl s))
  all_goals rfl

theorem answers_cmdRetire : (cmdRetire s).Answers s := by
  have detached : ∀ h r x, s.Outer ((s.detach h r).putRecord h x) := fun h r _ =>
    (s.outer_detach h r).trans (State.outer_putRecord _ _ _)
  unfold cmdRetire
  split
  case h_2 => rfl
  split
  · rfl
  split
  · rfl
  dsimp only
  split
  · exact .of_outer (((detached _ _ _).trans (State.outer_leaveTable _ _)).trans (State.outer_handOut _ _))
  · exact .of_outer ((detached _ _ _).trans (State.outer_handOut _ _))

theorem answers_cmdNextChange : (cmdNextChange s).Answers s := by
  unfold cmdNextChange
  repeat' split
  all_goals rfl

theorem answers_cmdAckChange : (cmdAckChange s).Answers s := by
  unfold cmdAckChange
  repeat' split
  all_goals rfl

theorem answers_cmdProfileStage : (cmdProfileStage s).Answers s := by
  unfold cmdProfileStage
  repeat' split
  all_goals rfl

theorem answers_cmdProfileLoad : (cmdProfileLoad s).Answers s := by
  unfold cmdProfileLoad
  repeat' split
  all_goals rfl

theorem answers_cmdProfileRead : (cmdProfileRead s).Answers s := by
  unfold cmdProfileRead
  repeat' split
  all_goals rfl

theorem answers_cmdLadderWrite : (cmdLadderWrite s).Answers s := by
  unfold cmdLadderWrite
  split
  case h_2 => rfl
  dsimp only
  split <;> rfl

theorem answers_cmdLadderRead : (cmdLadderRead s).Answers s := by
  unfold cmdLadderRead
  split <;> rfl

theorem answers_cmdLineConfig : (cmdLineConfig s).Answers s := by
  unfold cmdLineConfig
  split
  case h_2 => rfl
  dsimp only
  repeat' split
  all_goals rfl

theorem answers_cmdLineRead : (cmdLineRead s).Answers s := by
  unfold cmdLineRead
  split <;> rfl

theorem answers_cmdLineReset : (cmdLineReset s).Answers s := by
  unfold cmdLineReset
  split
  · exact .of_outer ((s.outer_modLine _ _).trans (State.outer_lineLeavesUp _ _))
  · rfl

theorem answers_cmdLineAck : (cmdLineAck s).Answers s := by
  unfold cmdLineAck
  split <;> rfl

theorem answers_cmdClearTable : (cmdClearTable s).Answers s := by
  rw [cmdClearTable_eq]
  exact .of_outer s.outer_cleared

variable {s}

/-- Every owner but that of PROFILE_COMMIT answers in the event that starts it (R162, R165). -/
theorem commandOf_answers (other : code ≠ 0x12) (s : State) : (commandOf code s).Answers s := by
  generalize owner : commandOf code = body
  unfold commandOf at owner
  split at owner
  all_goals subst owner
  case h_12 commit => exact absurd (BitVec.eq_of_toNat_eq commit) other
  exacts [answers_cmdAdmit s, answers_cmdFind s, answers_cmdRead s, answers_cmdRebind s, answers_cmdCap s,
    answers_cmdRenegotiate s, answers_cmdRetire s, answers_cmdNextChange s, answers_cmdAckChange s, answers_cmdProfileStage s,
    answers_cmdProfileLoad s, answers_cmdProfileRead s, answers_cmdLadderWrite s, answers_cmdLadderRead s,
    answers_cmdLineConfig s, answers_cmdLineRead s, answers_cmdLineReset s, answers_cmdLineAck s, answers_cmdClearTable s,
    rfl, rfl]

/-- Every owner that does not accept refuses (R162). -/
theorem commandOf_refused {status : Status} {res : List Word} (e : commandOf code s = .done t status res)
    (refused : status ≠ .ok) : s.Refused status t := by
  by_cases commit : code = 0x12
  · subst commit
    have owner : commandOf 0x12 s = cmdProfileCommit s := rfl
    rw [owner] at e
    obtain ⟨_, answer⟩ | ⟨_, answer⟩ := cmdProfileCommit_answer s <;> cases answer.symm.trans e
    exact .inr ⟨nofun, rfl⟩
  · obtain ⟨_, _, _, answer, -, cases⟩ := (commandOf_answers commit s).cases
    cases answer.symm.trans e
    exact cases.resolve_left refused

/-! ### What the port makes of an answer (R159, R162, R164) -/

/-- The port and the flags after a command that is refused with a status (R162, R164). -/
def State.refusedWith (s : State) (status : Status) (port : HostPort) : State := { s with
  port := port
  flags := { s.flags with
    commandDone := true
    tableFull := s.flags.tableFull || decide (status.code = Status.full.code) } }

theorem Status.code_eq_full {status : Status} : status.code = Status.full.code ↔ status = .full := by
  cases status <;> decide

/-- The completion of a refused command writes the port's words and COMMAND_DONE (R162, R164). -/
theorem State.complete_refused {status : Status} (res : List Word) (answer : (s.started code args).Refused status t) :
    t.complete status res = s.refusedWith status (t.complete status res).port := by
  obtain ⟨rfl, rfl⟩ | ⟨other, rfl⟩ := answer
  · simp [State.refusedWith, State.complete, State.setTableFull, State.started, State.began]
  · have kept : decide (status.code = Status.full.code) = false := decide_eq_false (other ∘ Status.code_eq_full.1)
    simp [State.refusedWith, State.complete, State.started, State.began, kept]

/-- A host command that ends with a status other than OK has been refused: PROFILE_COMMIT, while its sweep goes on, shows OK. -/
theorem exec_refused {c : Instr} (host : hostCommand? c = some (code, args)) (ready : s.ready) (e : exec c s = .next t)
    (refused : t.port.status ≠ Status.ok.code) : ∃ u status res, t = u.complete status res ∧
      (s.started code args).Refused status u := by
  rw [exec_hostCommand host, State.issue_ready ready] at e
  obtain ⟨u, status, res, answer, -⟩ | ⟨n, answer⟩ := commandOf_answer code (s.started code args) <;> rw [answer] at e <;> cases e
  · exact ⟨u, status, res, rfl, commandOf_refused answer fun ok => refused (congrArg Status.code ok)⟩
  · exact absurd rfl refused

/-! ### Word by word (R158, R159) -/

theorem runAll_cons {c : Instr} (e : exec c s = .next t) (cs : List Instr) : runAll s (c :: cs) = runAll t cs := by
  show List.foldl _ (exec c s) cs = _
  rw [e]
  rfl

theorem runAll_concat {cs : List Instr} (e : runAll s cs = .next t) (c : Instr) : runAll s (cs ++ [c]) = exec c t := by
  have last : runAll s (cs ++ [c]) = andThen (runAll s cs) (exec c) := List.foldl_concat ..
  rw [last, e]
  rfl

/-- The argument words after the words of some of them have been written. -/
def argsWith (old : Vector Word 6) (args : List Word) (written : List (Fin 6)) : Vector Word 6 :=
  Vector.ofFn fun j => if j ∈ written then args.getD j.val old[j] else old[j]

theorem argsWith_nil (old : Vector Word 6) (args : List Word) : argsWith old args [] = old := by
  ext j hj
  simp [argsWith]

/-- An argument word the command does not use is not written. -/
theorem argsWith_cons_none {old : Vector Word 6} {i : Fin 6} (unused : args[i.val]? = none) (rest : List (Fin 6)) :
    argsWith old args (i :: rest) = argsWith old args rest := by
  ext j hj
  by_cases same : (⟨j, hj⟩ : Fin 6) = i
  · subst same
    simp [argsWith, List.getD, unused]
  · simp [argsWith, same]

/-- The word written first stays, for a later write of it is the same. -/
theorem argsWith_cons_some {old : Vector Word 6} {i : Fin 6} {v : Word} (used : args[i.val]? = some v) (rest : List (Fin 6)) :
    argsWith old args (i :: rest) = argsWith (old.set i v) args rest := by
  ext j hj
  by_cases same : (⟨j, hj⟩ : Fin 6) = i
  · subst same
    simp [argsWith, List.getD, used]
  · have apart : i.val ≠ j := fun e => same (Fin.ext e.symm)
    simp [argsWith, same, apart, Vector.getElem_set]

/-- The argument words a command uses, each taken as a MAILBOX_WRITE. -/
theorem runAll_argWrites (ready : s.ready) (args : List Word) (written : List (Fin 6)) :
    runAll s (written.filterMap fun i => args[i.val]?.map (.mailboxWrite (.arg i))) =
      .next { s with port := { s.port with args := argsWith s.port.args args written } } := by
  induction written generalizing s with
  | nil =>
    rw [argsWith_nil]
    rfl
  | cons i rest ih =>
    cases word : args[i.val]? with
    | none =>
      rw [List.filterMap_cons_none (by rw [word]; rfl), ih ready, argsWith_cons_none word]
    | some v =>
      rw [List.filterMap_cons_some (b := .mailboxWrite (.arg i) v) (by rw [word]; rfl), argsWith_cons_some word,
        runAll_cons ((exec_mailboxWrite ready.1 _).trans (congrArg _ (State.writeMailbox_arg ready.2 i)))]
      exact ih ⟨ready.1, ready.2⟩

/-- The mailbox writes of a command load its words (R158). -/
theorem runAll_mailboxWrites (ready : s.ready) (code : Word) (args : List Word) :
    runAll s (mailboxWrites code args) = .next { s with port := s.port.load code args } := by
  have coded : ({ s with port := { s.port with mailbox := code } } : State).ready := ready
  rw [mailboxWrites, runAll_cons ((exec_mailboxWrite ready.1 _).trans (congrArg _ (State.writeMailbox_code ready.2)))]
  refine (runAll_argWrites coded args _).trans ?_
  simp [argsWith, HostPort.load]

/-- The write of GO starts the command that has been loaded (R159). -/
theorem exec_goWhileBusy_loaded (ready : s.ready) (code : Word) (args : List Word) :
    exec .goWhileBusy { s with port := s.port.load code args } = .next (s.issue code args (commandOf code)) := by
  have loaded : ({ s with port := s.port.load code args } : State).ready := ready
  rw [exec_goWhileBusy loaded.1, State.writeGo, if_neg (Bool.not_eq_true _ ▸ loaded.2), State.issue, if_neg (by simp [ready.1]),
    if_neg (by simp [ready.2])]
  rfl

end

/-- Settles O13: the owner's answer completed, the refusals, and the words before the start. -/
theorem hostCommandsCompleteOrChangeNothing : Obligations.HostCommandsCompleteOrChangeNothing := by
  refine ⟨fun c code args s host other ready => ?_, fun c ⟨code, args⟩ s t host ready e refused => ?_,
    fun c code args s host ready => ?_⟩
  · obtain ⟨u, status, res, answer, lookup, -⟩ := (commandOf_answers other (s.started code args)).cases
    have steady := steady_commandOf code (s.started code args)
    obtain ⟨_, _, _, again, quiet⟩ | ⟨n, again⟩ := commandOf_answer code (s.started code args) <;> cases answer.symm.trans again
    rw [answer] at steady
    refine ⟨u.complete status res, (exec_hostCommand host s).trans (congrArg _ (State.issue_done ready answer)), rfl, rfl, ?_,
      fun i => ?_, ?_, quiet.sweep, lookup, quiet.enables, steady.now⟩
    · exact congrArg HostPort.mailbox quiet.port
    · exact (congrArg (·.args[i]) quiet.port).trans (State.started_arg s code args i)
    · exact (congrArg HostPort.mailboxBusy quiet.port).trans rfl
  · obtain ⟨u, status, res, rfl, answer⟩ := exec_refused host ready e refused
    refine ⟨State.complete_refused res answer, ?_⟩
    obtain ⟨-, rfl⟩ | ⟨-, rfl⟩ := answer <;> rfl
  · rw [runAll_concat (runAll_mailboxWrites ready code args), exec_goWhileBusy_loaded ready, exec_hostCommand host]

end Sys2Proof.Machine
end

section
/-! Power-on and RESETn, and the part they hold (R157, R168, R169). -/

namespace Sys2Proof.Machine

section
variable {s : State}

/-- The blocks' reset values, with the pins, the time base and the queue as they stand (R157, R168, log 6). -/
theorem State.blocksReset_eq : s.blocksReset = { State.reset with
    poweringOn := s.poweringOn, resetLow := s.resetLow, now := s.now,
    spi := if s.spi = .idle then .idle else .skipped, pending := s.pending } := by
  rw [State.blocksReset, Spi.cut_eq]

theorem exec_powerOn : exec .powerOn s = .next { s.blocksReset with poweringOn := true } := rfl

theorem exec_resetn : exec .resetn s = .next { s.blocksReset with resetLow := true } := rfl

theorem State.readWord_held (held : s.running = false) (a : BitVec 5) : s.readWord a = 0 := by
  simp [State.readWord, held]

theorem State.reset_intnAsserted : State.reset.intnAsserted = false := by
  simp [State.intnAsserted, State.reset_enabledFlags]

/-- INTn reads flags and enables, which a held part keeps at their reset values. -/
theorem State.HeldOk.intnAsserted (ok : s.HeldOk) (held : s.running = false) : s.intnAsserted = false := by
  rw [ok held]
  exact State.reset_intnAsserted

end

/-- Settles O5: the two resets are `blocksReset` with their own pin, and a held part ignores every other event. -/
theorem resetHoldsThePart : Obligations.ResetHoldsThePart := by
  refine ⟨fun s => ⟨?powerOn, ?resetn, rfl, rfl⟩, fun s held =>
    ⟨fun _ notReset => exec_held notReset held, State.readWord_held held, fun ok => ok.intnAsserted held⟩⟩
  case powerOn => rw [exec_powerOn, State.blocksReset_eq]
  case resetn => rw [exec_resetn, State.blocksReset_eq]

end Sys2Proof.Machine
end
